-- ==== Sys2Proof/Word.lean ====
section
/-! DEFINITION. The word types: the 8-bit byte and the 16-bit address or pair (00_scope.md R10, R11). -/

namespace Sys2Proof

/-- An 8-bit register, a memory byte, an opcode byte (R10). -/
abbrev Byte := BitVec 8

/-- PC, SP, a register pair, an address (R10, R11). -/
abbrev Word := BitVec 16

end Sys2Proof
end

