-- ==== Sys2Proof/Machine/Bits.lean ====
section
/-! DEFINITION. Byte order, bit tests and the signed displacement: the small helpers the decoder and the
meanings share (00_scope.md R20, R21; 30_encoding.md R143). -/

namespace Sys2Proof

/-- `(hi << 8) | lo` (R21). -/
def wordOf (hi lo : Byte) : Word := (hi.setWidth 16 <<< 8) ||| lo.setWidth 16

/-- Bits 15:8 of a word (R20). -/
def hiByte (w : Word) : Byte := (w >>> 8).setWidth 8

/-- Bits 7:0 of a word (R20). -/
def loByte (w : Word) : Byte := w.setWidth 8

/-- The signed displacement of a relative jump: `e - 256` for `e > 127`, else `e` (R143, R239). -/
def displacement (e : Byte) : Int := if e.toNat > 127 then (e.toNat : Int) - 256 else (e.toNat : Int)

/-- `(v >> k) & 1` as a truth value (R20). -/
def bitSet (v : Byte) (k : Nat) : Bool := ((v >>> k) &&& 1#8) == 1#8

/-- `0xFF00 + n`, the high-page address, with no sign extension (R143). -/
def highPage (n : Byte) : Word := 0xFF00#16 + n.setWidth 16

end Sys2Proof
end

