-- ==== Sys2Proof/Syntax.lean ====
section
/-! DEFINITION. The abstract syntax: operand names and ONE constructor for each of the 220 rows of
spec/opcode_table.json. A constructor carries the operand bytes that follow the opcode and nothing else:
a byte `n` (or the displacement byte `e`) or a word `nn` (30_encoding.md R141, R143). -/

namespace Sys2Proof

/-- The 8-bit registers an operand field can name (R142). F is not among them. -/
inductive Reg8 where
  | b | c | d | e | h | l | a
deriving DecidableEq, Repr

/-- The register pairs, `qq` of PUSH and POP (R32, R142). There is no AF pair. -/
inductive Pair where
  | bc | de | hl
deriving DecidableEq, Repr

/-- The 16-bit operands `dd` of LD rr,nn and INC rr: a pair or SP (R142). -/
inductive Reg16 where
  | bc | de | hl | sp
deriving DecidableEq, Repr

/-- The bit number `b` of BIT, bits 5:3 of the extended byte (R142). -/
inductive BitNo where
  | b0 | b1 | b2 | b3 | b4 | b5 | b6 | b7
deriving DecidableEq, Repr

/-- The two opcode spaces: the first byte, and the byte after 0xCB (R148, R161). -/
inductive Space where
  | primary | extended
deriving DecidableEq, Repr

/-- The instructions, in the order of spec/opcode_table.json. -/
inductive Instr where
  /-- LD B,n (R180) -/
  | ldBImm (n : Byte)
  /-- LD C,n (R180) -/
  | ldCImm (n : Byte)
  /-- LD D,n (R180) -/
  | ldDImm (n : Byte)
  /-- LD E,n (R180) -/
  | ldEImm (n : Byte)
  /-- LD H,n (R180) -/
  | ldHImm (n : Byte)
  /-- LD L,n (R180) -/
  | ldLImm (n : Byte)
  /-- LD (HL),n (R181) -/
  | ldAtHlImm (n : Byte)
  /-- LD A,n (R180) -/
  | ldAImm (n : Byte)
  /-- LD BC,nn (R182) -/
  | ldBcImm (nn : Word)
  /-- LD DE,nn (R182) -/
  | ldDeImm (nn : Word)
  /-- LD HL,nn (R182) -/
  | ldHlImm (nn : Word)
  /-- LD SP,nn (R182) -/
  | ldSpImm (nn : Word)
  /-- LD (BC),A (R183) -/
  | ldAtBcA
  /-- LD (DE),A (R184) -/
  | ldAtDeA
  /-- LD A,(BC) (R185) -/
  | ldAAtBc
  /-- LD A,(DE) (R186) -/
  | ldAAtDe
  /-- LD (HL+),A (R187) -/
  | ldAtHlIncA
  /-- LD A,(HL+) (R188) -/
  | ldAAtHlInc
  /-- LD (HL-),A (R189) -/
  | ldAtHlDecA
  /-- LD A,(HL-) (R190) -/
  | ldAAtHlDec
  /-- LD B,(HL) (R191) -/
  | ldBAtHl
  /-- LD C,(HL) (R191) -/
  | ldCAtHl
  /-- LD D,(HL) (R191) -/
  | ldDAtHl
  /-- LD E,(HL) (R191) -/
  | ldEAtHl
  /-- LD H,(HL) (R191) -/
  | ldHAtHl
  /-- LD L,(HL) (R191) -/
  | ldLAtHl
  /-- LD A,(HL) (R191) -/
  | ldAAtHl
  /-- LD (HL),B (R192) -/
  | ldAtHlB
  /-- LD (HL),C (R192) -/
  | ldAtHlC
  /-- LD (HL),D (R192) -/
  | ldAtHlD
  /-- LD (HL),E (R192) -/
  | ldAtHlE
  /-- LD (HL),H (R192) -/
  | ldAtHlH
  /-- LD (HL),L (R192) -/
  | ldAtHlL
  /-- LD (HL),A (R192) -/
  | ldAtHlA
  /-- LD B,B (R193) -/
  | ldBB
  /-- LD B,C (R193) -/
  | ldBC
  /-- LD B,D (R193) -/
  | ldBD
  /-- LD B,E (R193) -/
  | ldBE
  /-- LD B,H (R193) -/
  | ldBH
  /-- LD B,L (R193) -/
  | ldBL
  /-- LD B,A (R193) -/
  | ldBA
  /-- LD C,B (R193) -/
  | ldCB
  /-- LD C,C (R193) -/
  | ldCC
  /-- LD C,D (R193) -/
  | ldCD
  /-- LD C,E (R193) -/
  | ldCE
  /-- LD C,H (R193) -/
  | ldCH
  /-- LD C,L (R193) -/
  | ldCL
  /-- LD C,A (R193) -/
  | ldCA
  /-- LD D,B (R193) -/
  | ldDB
  /-- LD D,C (R193) -/
  | ldDC
  /-- LD D,D (R193) -/
  | ldDD
  /-- LD D,E (R193) -/
  | ldDE
  /-- LD D,H (R193) -/
  | ldDH
  /-- LD D,L (R193) -/
  | ldDL
  /-- LD D,A (R193) -/
  | ldDA
  /-- LD E,B (R193) -/
  | ldEB
  /-- LD E,C (R193) -/
  | ldEC
  /-- LD E,D (R193) -/
  | ldED
  /-- LD E,E (R193) -/
  | ldEE
  /-- LD E,H (R193) -/
  | ldEH
  /-- LD E,L (R193) -/
  | ldEL
  /-- LD E,A (R193) -/
  | ldEA
  /-- LD H,B (R193) -/
  | ldHB
  /-- LD H,C (R193) -/
  | ldHC
  /-- LD H,D (R193) -/
  | ldHD
  /-- LD H,E (R193) -/
  | ldHE
  /-- LD H,H (R193) -/
  | ldHH
  /-- LD H,L (R193) -/
  | ldHL
  /-- LD H,A (R193) -/
  | ldHA
  /-- LD L,B (R193) -/
  | ldLB
  /-- LD L,C (R193) -/
  | ldLC
  /-- LD L,D (R193) -/
  | ldLD
  /-- LD L,E (R193) -/
  | ldLE
  /-- LD L,H (R193) -/
  | ldLH
  /-- LD L,L (R193) -/
  | ldLL
  /-- LD L,A (R193) -/
  | ldLA
  /-- LD A,B (R193) -/
  | ldAB
  /-- LD A,C (R193) -/
  | ldAC
  /-- LD A,D (R193) -/
  | ldAD
  /-- LD A,E (R193) -/
  | ldAE
  /-- LD A,H (R193) -/
  | ldAH
  /-- LD A,L (R193) -/
  | ldAL
  /-- LD A,A (R193) -/
  | ldAA
  /-- INC B (R200) -/
  | incB
  /-- INC C (R200) -/
  | incC
  /-- INC D (R200) -/
  | incD
  /-- INC E (R200) -/
  | incE
  /-- INC H (R200) -/
  | incH
  /-- INC L (R200) -/
  | incL
  /-- INC A (R200) -/
  | incA
  /-- DEC B (R201) -/
  | decB
  /-- DEC C (R201) -/
  | decC
  /-- DEC D (R201) -/
  | decD
  /-- DEC E (R201) -/
  | decE
  /-- DEC H (R201) -/
  | decH
  /-- DEC L (R201) -/
  | decL
  /-- DEC A (R201) -/
  | decA
  /-- INC BC (R202) -/
  | incBc
  /-- INC DE (R202) -/
  | incDe
  /-- INC HL (R202) -/
  | incHl
  /-- INC SP (R202) -/
  | incSp
  /-- DEC SP (R203) -/
  | decSp
  /-- ADD A,B (R210) -/
  | addB
  /-- ADD A,C (R210) -/
  | addC
  /-- ADD A,D (R210) -/
  | addD
  /-- ADD A,E (R210) -/
  | addE
  /-- ADD A,H (R210) -/
  | addH
  /-- ADD A,L (R210) -/
  | addL
  /-- ADD A,(HL) (R211) -/
  | addAtHl
  /-- ADD A,A (R210) -/
  | addA
  /-- ADD A,n (R212) -/
  | addImm (n : Byte)
  /-- SUB B (R213) -/
  | subB
  /-- SUB C (R213) -/
  | subC
  /-- SUB D (R213) -/
  | subD
  /-- SUB E (R213) -/
  | subE
  /-- SUB H (R213) -/
  | subH
  /-- SUB L (R213) -/
  | subL
  /-- SUB (HL) (R214) -/
  | subAtHl
  /-- SUB A (R213) -/
  | subA
  /-- SUB n (R215) -/
  | subImm (n : Byte)
  /-- CP B (R216) -/
  | cpB
  /-- CP C (R216) -/
  | cpC
  /-- CP D (R216) -/
  | cpD
  /-- CP E (R216) -/
  | cpE
  /-- CP H (R216) -/
  | cpH
  /-- CP L (R216) -/
  | cpL
  /-- CP (HL) (R217) -/
  | cpAtHl
  /-- CP A (R216) -/
  | cpA
  /-- CP n (R218) -/
  | cpImm (n : Byte)
  /-- XOR A (R219) -/
  | xorA
  /-- RLA (R230) -/
  | rla
  /-- JR e (R240) -/
  | jr (e : Byte)
  /-- JR NZ,e (R241) -/
  | jrNz (e : Byte)
  /-- JR Z,e (R242) -/
  | jrZ (e : Byte)
  /-- CALL nn (R243) -/
  | call (nn : Word)
  /-- RST 38H (R244) -/
  | rst38
  /-- RET (R245) -/
  | ret
  /-- PUSH BC (R250) -/
  | pushBc
  /-- PUSH DE (R250) -/
  | pushDe
  /-- PUSH HL (R250) -/
  | pushHl
  /-- POP BC (R251) -/
  | popBc
  /-- POP DE (R251) -/
  | popDe
  /-- POP HL (R251) -/
  | popHl
  /-- LDH (n),A (R255) -/
  | ldhAtImmA (n : Byte)
  /-- LDH A,(n) (R256) -/
  | ldhAAtImm (n : Byte)
  /-- LD (C),A (R257) -/
  | ldAtCA
  /-- LD A,(C) (R258) -/
  | ldAAtC
  /-- LD (nn),A (R259) -/
  | ldAtImmA (nn : Word)
  /-- LD A,(nn) (R260) -/
  | ldAAtImm (nn : Word)
  /-- RL B (R231) -/
  | rlB
  /-- RL C (R231) -/
  | rlC
  /-- RL D (R231) -/
  | rlD
  /-- RL E (R231) -/
  | rlE
  /-- RL H (R231) -/
  | rlH
  /-- RL L (R231) -/
  | rlL
  /-- RL A (R231) -/
  | rlA
  /-- BIT 0,B (R232) -/
  | bit0B
  /-- BIT 0,C (R232) -/
  | bit0C
  /-- BIT 0,D (R232) -/
  | bit0D
  /-- BIT 0,E (R232) -/
  | bit0E
  /-- BIT 0,H (R232) -/
  | bit0H
  /-- BIT 0,L (R232) -/
  | bit0L
  /-- BIT 0,(HL) (R233) -/
  | bit0AtHl
  /-- BIT 0,A (R232) -/
  | bit0A
  /-- BIT 1,B (R232) -/
  | bit1B
  /-- BIT 1,C (R232) -/
  | bit1C
  /-- BIT 1,D (R232) -/
  | bit1D
  /-- BIT 1,E (R232) -/
  | bit1E
  /-- BIT 1,H (R232) -/
  | bit1H
  /-- BIT 1,L (R232) -/
  | bit1L
  /-- BIT 1,(HL) (R233) -/
  | bit1AtHl
  /-- BIT 1,A (R232) -/
  | bit1A
  /-- BIT 2,B (R232) -/
  | bit2B
  /-- BIT 2,C (R232) -/
  | bit2C
  /-- BIT 2,D (R232) -/
  | bit2D
  /-- BIT 2,E (R232) -/
  | bit2E
  /-- BIT 2,H (R232) -/
  | bit2H
  /-- BIT 2,L (R232) -/
  | bit2L
  /-- BIT 2,(HL) (R233) -/
  | bit2AtHl
  /-- BIT 2,A (R232) -/
  | bit2A
  /-- BIT 3,B (R232) -/
  | bit3B
  /-- BIT 3,C (R232) -/
  | bit3C
  /-- BIT 3,D (R232) -/
  | bit3D
  /-- BIT 3,E (R232) -/
  | bit3E
  /-- BIT 3,H (R232) -/
  | bit3H
  /-- BIT 3,L (R232) -/
  | bit3L
  /-- BIT 3,(HL) (R233) -/
  | bit3AtHl
  /-- BIT 3,A (R232) -/
  | bit3A
  /-- BIT 4,B (R232) -/
  | bit4B
  /-- BIT 4,C (R232) -/
  | bit4C
  /-- BIT 4,D (R232) -/
  | bit4D
  /-- BIT 4,E (R232) -/
  | bit4E
  /-- BIT 4,H (R232) -/
  | bit4H
  /-- BIT 4,L (R232) -/
  | bit4L
  /-- BIT 4,(HL) (R233) -/
  | bit4AtHl
  /-- BIT 4,A (R232) -/
  | bit4A
  /-- BIT 5,B (R232) -/
  | bit5B
  /-- BIT 5,C (R232) -/
  | bit5C
  /-- BIT 5,D (R232) -/
  | bit5D
  /-- BIT 5,E (R232) -/
  | bit5E
  /-- BIT 5,H (R232) -/
  | bit5H
  /-- BIT 5,L (R232) -/
  | bit5L
  /-- BIT 5,(HL) (R233) -/
  | bit5AtHl
  /-- BIT 5,A (R232) -/
  | bit5A
  /-- BIT 6,B (R232) -/
  | bit6B
  /-- BIT 6,C (R232) -/
  | bit6C
  /-- BIT 6,D (R232) -/
  | bit6D
  /-- BIT 6,E (R232) -/
  | bit6E
  /-- BIT 6,H (R232) -/
  | bit6H
  /-- BIT 6,L (R232) -/
  | bit6L
  /-- BIT 6,(HL) (R233) -/
  | bit6AtHl
  /-- BIT 6,A (R232) -/
  | bit6A
  /-- BIT 7,B (R232) -/
  | bit7B
  /-- BIT 7,C (R232) -/
  | bit7C
  /-- BIT 7,D (R232) -/
  | bit7D
  /-- BIT 7,E (R232) -/
  | bit7E
  /-- BIT 7,H (R232) -/
  | bit7H
  /-- BIT 7,L (R232) -/
  | bit7L
  /-- BIT 7,(HL) (R233) -/
  | bit7AtHl
  /-- BIT 7,A (R232) -/
  | bit7A
deriving DecidableEq, Repr

end Sys2Proof
end

