-- ==== Sys2Proof/Machine/State.lean ====
section
/-! DEFINITION. The machine's state as plain data, its reset value, and the reasons a step can stop
(10_state.md; the reset table is R68). -/

namespace Sys2Proof.Machine

/-- A fixed-size byte store: the listed (index, byte) pairs, indexes strictly rising; an unlisted index reads
0x00, which is what a region without original data resets to (20_memory.md R81, R89; log 4). -/
abbrev Memory := List Host.Cell

/-- The tile cache in the same form: pixel (t, y, x) of R85 stands at index 64 t + 8 y + x; an unlisted pixel
is 0 (10_state.md R67). -/
abbrev TileCache := List (Nat × BitVec 2)

/-- A Clock: two unbounded counters (R64, 60_exceptions.md R310). -/
structure Clock where
  base : Nat
  fine : Nat
deriving DecidableEq, Repr

/-- The record of a fatal decode error (R63, 60_exceptions.md R300). -/
structure DecodeError where
  space : Space
  byte : Byte
deriving DecidableEq, Repr

/-- The PPU timing state (R65, 60_exceptions.md R320). -/
inductive PpuMode where
  | oamRead | vramRead | horizontalBlank | verticalBlank
deriving DecidableEq, Repr

/-- The fields of the PPU Registers (R50, R52 to R60). -/
structure PpuRegs where
  /-- LCDC bit 7. -/
  displayEnable : Bool
  /-- LCDC bit 6. -/
  windowMapSel : Bool
  /-- LCDC bit 5. -/
  windowEnable : Bool
  /-- LCDC bit 4. -/
  tilesetBit : Bool
  /-- LCDC bit 3. -/
  bgMapSel : Bool
  /-- LCDC bit 2. -/
  spriteSize : Bool
  /-- LCDC bit 1. -/
  spriteEnable : Bool
  /-- LCDC bit 0. -/
  bgEnable : Bool
  scy : Byte
  scx : Byte
  /-- The current scanline, 0..153 (R57). -/
  ly : Byte
  lyc : Byte
  /-- BGP entry 0 (R59), and so on. -/
  pal0 : BitVec 2
  pal1 : BitVec 2
  pal2 : BitVec 2
  pal3 : BitVec 2
  wy : Byte
  wx : Byte
deriving DecidableEq, Repr

/-- Everything the spec gives the machine (R68), the images of R19, and `frames`, the model's record of the
frame outputs (log 3). -/
structure State where
  a : Byte
  b : Byte
  c : Byte
  d : Byte
  e : Byte
  h : Byte
  l : Byte
  /-- The flags (R40). -/
  f : Byte
  pc : Word
  sp : Word
  cpuClock : Clock
  /-- The stop flag (R63). -/
  stopped : Bool
  error : Option DecodeError
  /-- "Still booting" (R62). -/
  bootFlag : Bool
  /-- The boot-ROM region, 256 bytes (R92). -/
  bootRom : Memory
  /-- The cartridge-ROM region, 32 KiB (R95). -/
  cartRom : Memory
  /-- Video Memory, 8 KiB (R85). -/
  vram : Memory
  /-- The tile cache over Video Memory (R85, R87). -/
  tiles : TileCache
  /-- Working RAM, 8 KiB (R99). -/
  wram : Memory
  /-- Zero-page RAM, 128 bytes (R105). -/
  zram : Memory
  ppu : PpuRegs
  mode : PpuMode
  ppuClock : Clock
  /-- The pixel buffer, 160 x 144 x 4 bytes (R66). -/
  pixels : Memory
  /-- The frames handed to the host, oldest first (60_exceptions.md R325, R335). -/
  frames : List Memory
  /-- The loaded `BOOT_ROM` image, the original data of the boot-ROM region (R19, R81). -/
  bootImage : List Byte
  /-- The loaded `CART_ROM` image, the original data of the cartridge-ROM region (R19, R81). -/
  cartImage : List Byte
deriving DecidableEq, Repr

/-- There is no fault: the one error of this hardware, the decode error, leaves a state the spec describes and is a
next state ("No other error classes exist", 60_exceptions.md R301, R304; log 7). -/
inductive Fault where
deriving DecidableEq, Repr

/-- The refusals. -/
inductive Refusal where
  /-- Raised by an arm of `exec` whose instruction has no meaning yet. Safe: nothing is claimed of it. No arm of this
  model raises it. -/
  | notModelled (mnemonic : String)
deriving DecidableEq, Repr

/-- What a meaning answers. -/
abbrev Result := Host.Outcome State Fault Refusal

/-- A Clock after reset (60_exceptions.md R311). -/
def Clock.zero : Clock := ⟨0, 0⟩

/-- The PPU Registers after reset: every field 0 (R61). -/
def PpuRegs.reset : PpuRegs where
  displayEnable := false
  windowMapSel := false
  windowEnable := false
  tilesetBit := false
  bgMapSel := false
  spriteSize := false
  spriteEnable := false
  bgEnable := false
  scy := 0x00#8
  scx := 0x00#8
  ly := 0x00#8
  lyc := 0x00#8
  pal0 := 0#2
  pal1 := 0#2
  pal2 := 0#2
  pal3 := 0#2
  wy := 0x00#8
  wx := 0x00#8

/-- The machine right after construction and reset (R68), with no image loaded: the ROM regions read 0x00
(log 2). -/
def State.reset : State where
  a := 0x00#8
  b := 0x00#8
  c := 0x00#8
  d := 0x00#8
  e := 0x00#8
  h := 0x00#8
  l := 0x00#8
  f := 0x00#8
  pc := 0x0000#16
  sp := 0x0000#16
  cpuClock := .zero
  stopped := false
  error := none
  bootFlag := true
  bootRom := []
  cartRom := []
  vram := []
  tiles := []
  wram := []
  zram := []
  ppu := .reset
  mode := .oamRead
  ppuClock := .zero
  pixels := []
  frames := []
  bootImage := []
  cartImage := []

end Sys2Proof.Machine
end

