-- ==== Sys2Proof/Machine/Flags.lean ====
section
/-! DEFINITION. The flags and every flag computation (10_state.md R40 to R43; 42_incdec.md; 43_alu.md R205 to R207;
44_rotate_bit.md R229, R232). A value of F is always built from the four flag bits, the low four bits zero (R42). -/

namespace Sys2Proof.Machine

/-- F from its four flag bits: Z 0x80, N 0x40, H 0x20, C 0x10 (R40). -/
def packFlags (z n h c : Bool) : Byte :=
  BitVec.ofBool z ++ BitVec.ofBool n ++ BitVec.ofBool h ++ BitVec.ofBool c ++ 0b0000#4

/-- `F.Z` (R41). -/
def State.zFlag (s : State) : Bool := bitSet s.f 7

/-- `F.N` (R41). -/
def State.nFlag (s : State) : Bool := bitSet s.f 6

/-- `F.H` (R41). -/
def State.hFlag (s : State) : Bool := bitSet s.f 5

/-- `F.C` (R41). -/
def State.cFlag (s : State) : Bool := bitSet s.f 4

/-- The half-carry formula `((res XOR v XOR a) & 0x10) != 0` (R205). -/
def halfCarry (res v a : Byte) : Bool := ((res ^^^ v ^^^ a) &&& 0x10#8) != 0x00#8

/-- The flags of `AddOp(v)` on `a` (R205). -/
def addFlags (a v : Byte) : Byte :=
  packFlags (a + v == 0x00#8) false (halfCarry (a + v) v a) (decide (a.toNat + v.toNat > 0xFF))

/-- The flags of `SubOp(v)` on `a` (R206). -/
def subFlags (a v : Byte) : Byte :=
  packFlags (a - v == 0x00#8) true (halfCarry (a - v) v a) (decide (a.toNat < v.toNat))

/-- The flags of INC r from the old value; C is kept (R200). -/
def incFlags (old : Byte) (carry : Bool) : Byte :=
  packFlags (old + 1#8 == 0x00#8) false (halfCarry (old + 1#8) 1#8 old) carry

/-- The flags of DEC r from the old value; C is kept (R201). -/
def decFlags (old : Byte) (carry : Bool) : Byte :=
  packFlags (old - 1#8 == 0x00#8) true (halfCarry (old - 1#8) 1#8 old) carry

/-- The result of `RotL(old)`: `((old << 1) | carry) & 0xFF` (R229). -/
def rotateLeft (old : Byte) (carry : Bool) : Byte := (old <<< 1) ||| (if carry then 1#8 else 0#8)

/-- The flags of `RotL(old)` (R229). -/
def rotateFlags (old : Byte) (carry : Bool) : Byte :=
  packFlags (rotateLeft old carry == 0x00#8) false false (bitSet old 7)

/-- The flags of BIT on bit `k` of `v`; C is kept (R232). -/
def bitFlags (v : Byte) (k : Nat) (carry : Bool) : Byte := packFlags (!bitSet v k) false true carry

/-- F after XOR A (R219). -/
def xorSelfFlags : Byte := packFlags true false false false

end Sys2Proof.Machine
end

