-- ==== Sys2Proof/Machine/Operands.lean ====
section
/-! DEFINITION. Register operands: every read and write of a register goes through here (00_scope.md R22;
10_state.md R30 to R32, R38). The memory operands are in Machine/Ops.lean. -/

namespace Sys2Proof.Machine

/-- `x[r]` (R22). -/
def State.reg8 (s : State) : Reg8 → Byte
  | .b => s.b
  | .c => s.c
  | .d => s.d
  | .e => s.e
  | .h => s.h
  | .l => s.l
  | .a => s.a

/-- `x[r] <- v` (R22). -/
def State.setReg8 (s : State) (r : Reg8) (v : Byte) : State :=
  match r with
  | .b => { s with b := v }
  | .c => { s with c := v }
  | .d => { s with d := v }
  | .e => { s with e := v }
  | .h => { s with h := v }
  | .l => { s with l := v }
  | .a => { s with a := v }

/-- `x[BC]`, `x[DE]`, `x[HL]`: `(high << 8) | low` (R22, R32). -/
def State.pair (s : State) : Pair → Word
  | .bc => wordOf s.b s.c
  | .de => wordOf s.d s.e
  | .hl => wordOf s.h s.l

/-- Setting a pair writes both halves (R22, R32). -/
def State.setPair (s : State) (q : Pair) (v : Word) : State :=
  match q with
  | .bc => { s with b := hiByte v, c := loByte v }
  | .de => { s with d := hiByte v, e := loByte v }
  | .hl => { s with h := hiByte v, l := loByte v }

/-- `x[rr]`, a pair or SP (R22). -/
def State.reg16 (s : State) : Reg16 → Word
  | .bc => s.pair .bc
  | .de => s.pair .de
  | .hl => s.pair .hl
  | .sp => s.sp

/-- `x[rr] <- v`, a pair or SP (R22). -/
def State.setReg16 (s : State) (r : Reg16) (v : Word) : State :=
  match r with
  | .bc => s.setPair .bc v
  | .de => s.setPair .de v
  | .hl => s.setPair .hl v
  | .sp => { s with sp := v }

end Sys2Proof.Machine
end

