-- ==== Sys2Proof/Machine/Cells.lean ====
section
/-! DEFINITION. The store behind every region, the tile cache and the pixel buffer: (index, value) pairs in one
canonical form, over a default value that an unlisted index reads as (log 4). -/

namespace Sys2Proof.Machine

/-- What an unlisted byte of a region reads as: 0x00 (20_memory.md R81: "zeroes if none"). -/
def unlistedByte : Byte := 0x00#8

/-- What an unlisted pixel of the tile cache reads as: 0 (10_state.md R67). -/
def unlistedPixel : BitVec 2 := 0#2

namespace Cells

variable {α : Type} [DecidableEq α]

/-- The value at an index. -/
def get (dflt : α) (m : List (Nat × α)) (k : Nat) : α :=
  match m with
  | [] => dflt
  | cell :: m => if cell.1 = k then cell.2 else get dflt m k

/-- The cells of consecutive values from `base` up, without those equal to the default. -/
def block (dflt : α) (base : Nat) (vs : List α) : List (Nat × α) :=
  match vs with
  | [] => []
  | v :: vs => if v = dflt then block dflt (base + 1) vs else (base, v) :: block dflt (base + 1) vs

/-- Write consecutive values from `base` up; every other index keeps its value. -/
def setBlock (dflt : α) (m : List (Nat × α)) (base : Nat) (vs : List α) : List (Nat × α) :=
  m.filter (fun cell => cell.1 < base) ++ block dflt base vs ++
    m.filter (fun cell => base + vs.length ≤ cell.1)

/-- Write one value. -/
def set (dflt : α) (m : List (Nat × α)) (k : Nat) (v : α) : List (Nat × α) := setBlock dflt m k [v]

/-- The indexes rise strictly, from `low` up and below `size`, and no value is the default. -/
def canonicalFrom (dflt : α) (size : Nat) (low : Nat) (m : List (Nat × α)) : Bool :=
  match m with
  | [] => true
  | cell :: m =>
    decide (low ≤ cell.1) && decide (cell.1 < size) && decide (cell.2 ≠ dflt) &&
      canonicalFrom dflt size (cell.1 + 1) m

/-- The canonical form of a store of `size` values. -/
def canonical (dflt : α) (size : Nat) (m : List (Nat × α)) : Bool := canonicalFrom dflt size 0 m

end Cells

/-- The canonical form of a byte store of a given size. -/
def Memory.wf (size : Nat) (m : Memory) : Bool := Cells.canonical unlistedByte size m

/-- The number of pixels of the tile cache: 512 tiles of 8 by 8 (R85). -/
def tileCacheSize : Nat := 512 * 64

/-- The canonical form of the tile cache. -/
def TileCache.wf (m : TileCache) : Bool := Cells.canonical unlistedPixel tileCacheSize m

end Sys2Proof.Machine
end

