-- ==== Sys2Proof/Config.lean ====
section
/-! DEFINITION. What one implementation fixes: the parameters a model takes as arguments (00_scope.md R13 to
R17; 92_eei_decisions.md, "Parameters a model takes as arguments"). Their default values stand in
Machine/Params.lean. BOOT_ROM and CART_ROM are not here: they are images the host loads, so State holds them. -/

namespace Sys2Proof

/-- `IMPL_SET` as a restriction of the opcode table: which opcodes of which space are implemented. Narrowing
it turns more bytes into decode errors (R13). An opcode the table does not list is undefined whatever it says. -/
abbrev ImplSet := Space → Byte → Bool

/-- How the tile-set selector comes from LCDC bit 4 (R16). -/
inductive TilesetPolarity where
  | direct | console
deriving DecidableEq, Repr

/-- The parameters of R13 to R17. -/
structure Params where
  /-- `IMPL_SET` (R13). -/
  implSet : ImplSet
  /-- `CYCLES`: the cost of an instruction in base cycles; the Bool says whether a conditional relative jump
  was taken (R14). -/
  cycles : Instr → Bool → Nat
  /-- `GRAY_LEVELS`: shade code 0..3 to gray intensity (R15). -/
  grayLevels : BitVec 2 → Byte
  /-- `TILESET_POLARITY` (R16). -/
  tilesetPolarity : TilesetPolarity
  /-- `FRAME_BUDGET`: the base cycles one RunFrame executes (R17). -/
  frameBudget : Nat

end Sys2Proof
end

