-- ==== Sys2Proof/Decode.lean ====
section
/-! DEFINITION. The decoder, total on any bytes and rejecting by name, the encoder after it, and the table word
reader. The opcode tables are built from the bit patterns of 30_encoding.md R141, R142 and of the instruction
rules; the encoder's bytes are those of spec/opcode_table.json, one arm per row. -/

namespace Sys2Proof

/-! ## Instructions by operand: the constructors of one rule, selected by the operand the rule leaves open -/

/-- LD r,n (R180). -/
def Instr.ldRegImm : Reg8 → Byte → Instr
  | .b, n => .ldBImm n
  | .c, n => .ldCImm n
  | .d, n => .ldDImm n
  | .e, n => .ldEImm n
  | .h, n => .ldHImm n
  | .l, n => .ldLImm n
  | .a, n => .ldAImm n

/-- LD r,(HL) (R191). -/
def Instr.ldRegAtHl : Reg8 → Instr
  | .b => .ldBAtHl
  | .c => .ldCAtHl
  | .d => .ldDAtHl
  | .e => .ldEAtHl
  | .h => .ldHAtHl
  | .l => .ldLAtHl
  | .a => .ldAAtHl

/-- LD (HL),r (R192). -/
def Instr.ldAtHlReg : Reg8 → Instr
  | .b => .ldAtHlB
  | .c => .ldAtHlC
  | .d => .ldAtHlD
  | .e => .ldAtHlE
  | .h => .ldAtHlH
  | .l => .ldAtHlL
  | .a => .ldAtHlA

/-- LD d,s (R193). -/
def Instr.ldRegReg (dst src : Reg8) : Instr :=
  match dst with
  | .b => (match src with | .b => .ldBB | .c => .ldBC | .d => .ldBD | .e => .ldBE | .h => .ldBH | .l => .ldBL | .a => .ldBA)
  | .c => (match src with | .b => .ldCB | .c => .ldCC | .d => .ldCD | .e => .ldCE | .h => .ldCH | .l => .ldCL | .a => .ldCA)
  | .d => (match src with | .b => .ldDB | .c => .ldDC | .d => .ldDD | .e => .ldDE | .h => .ldDH | .l => .ldDL | .a => .ldDA)
  | .e => (match src with | .b => .ldEB | .c => .ldEC | .d => .ldED | .e => .ldEE | .h => .ldEH | .l => .ldEL | .a => .ldEA)
  | .h => (match src with | .b => .ldHB | .c => .ldHC | .d => .ldHD | .e => .ldHE | .h => .ldHH | .l => .ldHL | .a => .ldHA)
  | .l => (match src with | .b => .ldLB | .c => .ldLC | .d => .ldLD | .e => .ldLE | .h => .ldLH | .l => .ldLL | .a => .ldLA)
  | .a => (match src with | .b => .ldAB | .c => .ldAC | .d => .ldAD | .e => .ldAE | .h => .ldAH | .l => .ldAL | .a => .ldAA)

/-- LD rr,nn (R182). -/
def Instr.ldPairImm : Reg16 → Word → Instr
  | .bc, nn => .ldBcImm nn
  | .de, nn => .ldDeImm nn
  | .hl, nn => .ldHlImm nn
  | .sp, nn => .ldSpImm nn

/-- INC r (R200). -/
def Instr.incReg : Reg8 → Instr
  | .b => .incB
  | .c => .incC
  | .d => .incD
  | .e => .incE
  | .h => .incH
  | .l => .incL
  | .a => .incA

/-- DEC r (R201). -/
def Instr.decReg : Reg8 → Instr
  | .b => .decB
  | .c => .decC
  | .d => .decD
  | .e => .decE
  | .h => .decH
  | .l => .decL
  | .a => .decA

/-- INC rr (R202). -/
def Instr.incPair : Reg16 → Instr
  | .bc => .incBc
  | .de => .incDe
  | .hl => .incHl
  | .sp => .incSp

/-- ADD A,r (R210). -/
def Instr.addReg : Reg8 → Instr
  | .b => .addB
  | .c => .addC
  | .d => .addD
  | .e => .addE
  | .h => .addH
  | .l => .addL
  | .a => .addA

/-- SUB r (R213). -/
def Instr.subReg : Reg8 → Instr
  | .b => .subB
  | .c => .subC
  | .d => .subD
  | .e => .subE
  | .h => .subH
  | .l => .subL
  | .a => .subA

/-- CP r (R216). -/
def Instr.cpReg : Reg8 → Instr
  | .b => .cpB
  | .c => .cpC
  | .d => .cpD
  | .e => .cpE
  | .h => .cpH
  | .l => .cpL
  | .a => .cpA

/-- RL r (R231). -/
def Instr.rlReg : Reg8 → Instr
  | .b => .rlB
  | .c => .rlC
  | .d => .rlD
  | .e => .rlE
  | .h => .rlH
  | .l => .rlL
  | .a => .rlA

/-- BIT b,r (R232). -/
def Instr.bitReg (b : BitNo) (r : Reg8) : Instr :=
  match b with
  | .b0 => (match r with | .b => .bit0B | .c => .bit0C | .d => .bit0D | .e => .bit0E | .h => .bit0H | .l => .bit0L | .a => .bit0A)
  | .b1 => (match r with | .b => .bit1B | .c => .bit1C | .d => .bit1D | .e => .bit1E | .h => .bit1H | .l => .bit1L | .a => .bit1A)
  | .b2 => (match r with | .b => .bit2B | .c => .bit2C | .d => .bit2D | .e => .bit2E | .h => .bit2H | .l => .bit2L | .a => .bit2A)
  | .b3 => (match r with | .b => .bit3B | .c => .bit3C | .d => .bit3D | .e => .bit3E | .h => .bit3H | .l => .bit3L | .a => .bit3A)
  | .b4 => (match r with | .b => .bit4B | .c => .bit4C | .d => .bit4D | .e => .bit4E | .h => .bit4H | .l => .bit4L | .a => .bit4A)
  | .b5 => (match r with | .b => .bit5B | .c => .bit5C | .d => .bit5D | .e => .bit5E | .h => .bit5H | .l => .bit5L | .a => .bit5A)
  | .b6 => (match r with | .b => .bit6B | .c => .bit6C | .d => .bit6D | .e => .bit6E | .h => .bit6H | .l => .bit6L | .a => .bit6A)
  | .b7 => (match r with | .b => .bit7B | .c => .bit7C | .d => .bit7D | .e => .bit7E | .h => .bit7H | .l => .bit7L | .a => .bit7A)

/-- BIT b,(HL) (R233). -/
def Instr.bitAtHl : BitNo → Instr
  | .b0 => .bit0AtHl
  | .b1 => .bit1AtHl
  | .b2 => .bit2AtHl
  | .b3 => .bit3AtHl
  | .b4 => .bit4AtHl
  | .b5 => .bit5AtHl
  | .b6 => .bit6AtHl
  | .b7 => .bit7AtHl

/-- PUSH qq (R250). -/
def Instr.push : Pair → Instr
  | .bc => .pushBc
  | .de => .pushDe
  | .hl => .pushHl

/-- POP qq (R251). -/
def Instr.pop : Pair → Instr
  | .bc => .popBc
  | .de => .popDe
  | .hl => .popHl

/-! ## Field codes (30_encoding.md R142) -/

/-- The register code of an operand field; 110 is `(HL)` and names no register (R142). -/
def Reg8.code : Reg8 → BitVec 3
  | .b => 0b000#3
  | .c => 0b001#3
  | .d => 0b010#3
  | .e => 0b011#3
  | .h => 0b100#3
  | .l => 0b101#3
  | .a => 0b111#3

/-- The code `qq` of PUSH and POP (R142). -/
def Pair.code : Pair → BitVec 2
  | .bc => 0b00#2
  | .de => 0b01#2
  | .hl => 0b10#2

/-- The code `dd` of LD rr,nn and INC rr (R142). -/
def Reg16.code : Reg16 → BitVec 2
  | .bc => 0b00#2
  | .de => 0b01#2
  | .hl => 0b10#2
  | .sp => 0b11#2

/-- The bit number `b` as a number 0..7 (R142). -/
def BitNo.toNat : BitNo → Nat
  | .b0 => 0
  | .b1 => 1
  | .b2 => 2
  | .b3 => 3
  | .b4 => 4
  | .b5 => 5
  | .b6 => 6
  | .b7 => 7

/-- All register operands, in code order. -/
def Reg8.all : List Reg8 := [.b, .c, .d, .e, .h, .l, .a]

/-- All pairs. -/
def Pair.all : List Pair := [.bc, .de, .hl]

/-- All 16-bit operands. -/
def Reg16.all : List Reg16 := [.bc, .de, .hl, .sp]

/-- All bit numbers. -/
def BitNo.all : List BitNo := [.b0, .b1, .b2, .b3, .b4, .b5, .b6, .b7]

/-- An opcode byte from its fields `xx yyy zzz`, bits 7:6, 5:3 and 2:0 (R141). -/
def fields (xx : BitVec 2) (yyy zzz : BitVec 3) : Byte := xx ++ yyy ++ zzz

/-! ## The opcode tables -/

/-- What an opcode selects, by its format (R141): no operand byte, one, or two (low byte first). -/
inductive Form where
  | op (i : Instr)
  | d8 (k : Byte → Instr)
  | d16 (k : Word → Instr)

/-- A row without operand bytes. -/
def opRow (op : Byte) (i : Instr) : Byte × Form := (op, .op i)

/-- A row with one operand byte. -/
def d8Row (op : Byte) (k : Byte → Instr) : Byte × Form := (op, .d8 k)

/-- A row with two operand bytes. -/
def d16Row (op : Byte) (k : Word → Instr) : Byte × Form := (op, .d16 k)

/-- One row for each register. -/
def regRows (row : Reg8 → Byte × Form) : List (Byte × Form) := Reg8.all.map row

/-- One row for each pair. -/
def pairRows (row : Pair → Byte × Form) : List (Byte × Form) := Pair.all.map row

/-- One row for each 16-bit operand. -/
def reg16Rows (row : Reg16 → Byte × Form) : List (Byte × Form) := Reg16.all.map row

/-- One row for each bit number. -/
def bitRows (row : BitNo → Byte × Form) : List (Byte × Form) := BitNo.all.map row

/-- The bits `dd0` or `qq0` of a pair opcode, bits 5:3 (R142). -/
def pairField (code : BitVec 2) : BitVec 3 := code ++ 0#1

/-- The bit-number field (R142). -/
def BitNo.code (b : BitNo) : BitVec 3 := BitVec.ofNat 3 b.toNat

/-- The primary rows of the immediate and pointer loads (R180 to R190). -/
def pointerLoadRows : List (Byte × Form) :=
  [regRows fun r => d8Row (fields 0b00#2 r.code 0b110#3) (Instr.ldRegImm r),
   [d8Row 0x36#8 .ldAtHlImm],
   reg16Rows fun r => d16Row (fields 0b00#2 (pairField r.code) 0b001#3) (Instr.ldPairImm r),
   [opRow 0x02#8 .ldAtBcA, opRow 0x12#8 .ldAtDeA, opRow 0x0A#8 .ldAAtBc, opRow 0x1A#8 .ldAAtDe],
   [opRow 0x22#8 .ldAtHlIncA, opRow 0x2A#8 .ldAAtHlInc],
   [opRow 0x32#8 .ldAtHlDecA, opRow 0x3A#8 .ldAAtHlDec]].flatten

/-- The primary rows of the register loads (R191 to R193). -/
def registerLoadRows : List (Byte × Form) :=
  [regRows fun r => opRow (fields 0b01#2 r.code 0b110#3) (Instr.ldRegAtHl r),
   regRows fun r => opRow (fields 0b01#2 0b110#3 r.code) (Instr.ldAtHlReg r),
   Reg8.all.flatMap fun dst => regRows fun src =>
     opRow (fields 0b01#2 dst.code src.code) (Instr.ldRegReg dst src)].flatten

/-- The primary rows of increment and decrement (R200 to R203). -/
def incDecRows : List (Byte × Form) :=
  [regRows fun r => opRow (fields 0b00#2 r.code 0b100#3) (Instr.incReg r),
   regRows fun r => opRow (fields 0b00#2 r.code 0b101#3) (Instr.decReg r),
   reg16Rows fun r => opRow (fields 0b00#2 (pairField r.code) 0b011#3) (Instr.incPair r),
   [opRow 0x3B#8 .decSp]].flatten

/-- The primary rows of arithmetic, compare, XOR A and RLA (R210 to R219, R230). -/
def aluRows : List (Byte × Form) :=
  [regRows fun r => opRow (fields 0b10#2 0b000#3 r.code) (Instr.addReg r),
   [opRow 0x86#8 .addAtHl, d8Row 0xC6#8 .addImm],
   regRows fun r => opRow (fields 0b10#2 0b010#3 r.code) (Instr.subReg r),
   [opRow 0x96#8 .subAtHl, d8Row 0xD6#8 .subImm],
   regRows fun r => opRow (fields 0b10#2 0b111#3 r.code) (Instr.cpReg r),
   [opRow 0xBE#8 .cpAtHl, d8Row 0xFE#8 .cpImm],
   [opRow 0xAF#8 .xorA, opRow 0x17#8 .rla]].flatten

/-- The primary rows of control transfer and the stack (R240 to R251). -/
def controlRows : List (Byte × Form) :=
  [[d8Row 0x18#8 .jr, d8Row 0x20#8 .jrNz, d8Row 0x28#8 .jrZ],
   [d16Row 0xCD#8 .call, opRow 0xFF#8 .rst38, opRow 0xC9#8 .ret],
   pairRows fun q => opRow (fields 0b11#2 (pairField q.code) 0b101#3) (Instr.push q),
   pairRows fun q => opRow (fields 0b11#2 (pairField q.code) 0b001#3) (Instr.pop q)].flatten

/-- The primary rows of the high-page and absolute loads and stores (R255 to R260). -/
def highPageRows : List (Byte × Form) :=
  [d8Row 0xE0#8 .ldhAtImmA, d8Row 0xF0#8 .ldhAAtImm, opRow 0xE2#8 .ldAtCA, opRow 0xF2#8 .ldAAtC,
   d16Row 0xEA#8 .ldAtImmA, d16Row 0xFA#8 .ldAAtImm]

/-- `PRI`, the primary table (R145, R161). -/
def primaryTable : List (Byte × Form) :=
  [pointerLoadRows, registerLoadRows, incDecRows, aluRows, controlRows, highPageRows].flatten

/-- `EXT`, the extended table (R146, R161). -/
def extendedTable : List (Byte × Form) :=
  [regRows fun r => opRow (fields 0b00#2 0b010#3 r.code) (Instr.rlReg r),
   BitNo.all.flatMap fun b => regRows fun r => opRow (fields 0b01#2 b.code r.code) (Instr.bitReg b r),
   bitRows fun b => opRow (fields 0b01#2 b.code 0b110#3) (Instr.bitAtHl b)].flatten

/-- The table of a space. -/
def opcodeTable : Space → List (Byte × Form)
  | .primary => primaryTable
  | .extended => extendedTable

/-- The handler an opcode byte selects, if it has one (R161, R162). -/
def lookup (sp : Space) (op : Byte) : Option Form :=
  ((opcodeTable sp).find? fun row => row.1 == op).map Prod.snd

/-- The same under an implemented set: an opcode outside `IMPL_SET` has no handler (R13). -/
def lookupIn (impl : ImplSet) (sp : Space) (op : Byte) : Option Form :=
  if impl sp op then lookup sp op else none

/-- 0xCB, the escape byte (R148). -/
def escapeByte : Byte := 0xCB#8

/-! ## The decoder -/

/-- Why bytes decode to no instruction. -/
inductive Reject where
  /-- No handler for this byte of this space: the fatal decode error of R147, R300. -/
  | undefinedOpcode (sp : Space) (op : Byte)
  /-- The bytes end before the instruction does; a running machine never meets this, since memory does not end. -/
  | truncated
deriving DecidableEq, Repr

/-- Take the operand bytes a form asks for (R143, low byte first). -/
def Form.take : Form → List Byte → Except Reject (Instr × List Byte)
  | .op i, bs => .ok (i, bs)
  | .d8 k, n :: bs => .ok (k n, bs)
  | .d16 k, lo :: hi :: bs => .ok (k (wordOf hi lo), bs)
  | .d8 _, [] => .error .truncated
  | .d16 _, _ => .error .truncated

/-- Dispatch on the opcode byte of a space, then take the operands (R161, R162). -/
def decodeOpcode (impl : ImplSet) (sp : Space) (op : Byte) (bs : List Byte) : Except Reject (Instr × List Byte) :=
  match lookupIn impl sp op with
  | none => .error (.undefinedOpcode sp op)
  | some form => form.take bs

/-- Decode one instruction from the front of a byte list; answers it with the bytes left over (R140, R161, R169). -/
def decode (impl : ImplSet) : List Byte → Except Reject (Instr × List Byte)
  | [] => .error .truncated
  | op :: bs =>
    if op = escapeByte then
      match bs with
      | [] => .error .truncated
      | op2 :: bs => decodeOpcode impl .extended op2 bs
    else decodeOpcode impl .primary op bs

/-! ## The encoder -/

/-- The bytes of an instruction (spec/opcode_table.json; immediates low byte first, R143). -/
def encode : Instr → List Byte
  | .ldBImm n => [0x06#8, n]
  | .ldCImm n => [0x0E#8, n]
  | .ldDImm n => [0x16#8, n]
  | .ldEImm n => [0x1E#8, n]
  | .ldHImm n => [0x26#8, n]
  | .ldLImm n => [0x2E#8, n]
  | .ldAtHlImm n => [0x36#8, n]
  | .ldAImm n => [0x3E#8, n]
  | .ldBcImm nn => [0x01#8, loByte nn, hiByte nn]
  | .ldDeImm nn => [0x11#8, loByte nn, hiByte nn]
  | .ldHlImm nn => [0x21#8, loByte nn, hiByte nn]
  | .ldSpImm nn => [0x31#8, loByte nn, hiByte nn]
  | .ldAtBcA => [0x02#8]
  | .ldAtDeA => [0x12#8]
  | .ldAAtBc => [0x0A#8]
  | .ldAAtDe => [0x1A#8]
  | .ldAtHlIncA => [0x22#8]
  | .ldAAtHlInc => [0x2A#8]
  | .ldAtHlDecA => [0x32#8]
  | .ldAAtHlDec => [0x3A#8]
  | .ldBAtHl => [0x46#8]
  | .ldCAtHl => [0x4E#8]
  | .ldDAtHl => [0x56#8]
  | .ldEAtHl => [0x5E#8]
  | .ldHAtHl => [0x66#8]
  | .ldLAtHl => [0x6E#8]
  | .ldAAtHl => [0x7E#8]
  | .ldAtHlB => [0x70#8]
  | .ldAtHlC => [0x71#8]
  | .ldAtHlD => [0x72#8]
  | .ldAtHlE => [0x73#8]
  | .ldAtHlH => [0x74#8]
  | .ldAtHlL => [0x75#8]
  | .ldAtHlA => [0x77#8]
  | .ldBB => [0x40#8]
  | .ldBC => [0x41#8]
  | .ldBD => [0x42#8]
  | .ldBE => [0x43#8]
  | .ldBH => [0x44#8]
  | .ldBL => [0x45#8]
  | .ldBA => [0x47#8]
  | .ldCB => [0x48#8]
  | .ldCC => [0x49#8]
  | .ldCD => [0x4A#8]
  | .ldCE => [0x4B#8]
  | .ldCH => [0x4C#8]
  | .ldCL => [0x4D#8]
  | .ldCA => [0x4F#8]
  | .ldDB => [0x50#8]
  | .ldDC => [0x51#8]
  | .ldDD => [0x52#8]
  | .ldDE => [0x53#8]
  | .ldDH => [0x54#8]
  | .ldDL => [0x55#8]
  | .ldDA => [0x57#8]
  | .ldEB => [0x58#8]
  | .ldEC => [0x59#8]
  | .ldED => [0x5A#8]
  | .ldEE => [0x5B#8]
  | .ldEH => [0x5C#8]
  | .ldEL => [0x5D#8]
  | .ldEA => [0x5F#8]
  | .ldHB => [0x60#8]
  | .ldHC => [0x61#8]
  | .ldHD => [0x62#8]
  | .ldHE => [0x63#8]
  | .ldHH => [0x64#8]
  | .ldHL => [0x65#8]
  | .ldHA => [0x67#8]
  | .ldLB => [0x68#8]
  | .ldLC => [0x69#8]
  | .ldLD => [0x6A#8]
  | .ldLE => [0x6B#8]
  | .ldLH => [0x6C#8]
  | .ldLL => [0x6D#8]
  | .ldLA => [0x6F#8]
  | .ldAB => [0x78#8]
  | .ldAC => [0x79#8]
  | .ldAD => [0x7A#8]
  | .ldAE => [0x7B#8]
  | .ldAH => [0x7C#8]
  | .ldAL => [0x7D#8]
  | .ldAA => [0x7F#8]
  | .incB => [0x04#8]
  | .incC => [0x0C#8]
  | .incD => [0x14#8]
  | .incE => [0x1C#8]
  | .incH => [0x24#8]
  | .incL => [0x2C#8]
  | .incA => [0x3C#8]
  | .decB => [0x05#8]
  | .decC => [0x0D#8]
  | .decD => [0x15#8]
  | .decE => [0x1D#8]
  | .decH => [0x25#8]
  | .decL => [0x2D#8]
  | .decA => [0x3D#8]
  | .incBc => [0x03#8]
  | .incDe => [0x13#8]
  | .incHl => [0x23#8]
  | .incSp => [0x33#8]
  | .decSp => [0x3B#8]
  | .addB => [0x80#8]
  | .addC => [0x81#8]
  | .addD => [0x82#8]
  | .addE => [0x83#8]
  | .addH => [0x84#8]
  | .addL => [0x85#8]
  | .addAtHl => [0x86#8]
  | .addA => [0x87#8]
  | .addImm n => [0xC6#8, n]
  | .subB => [0x90#8]
  | .subC => [0x91#8]
  | .subD => [0x92#8]
  | .subE => [0x93#8]
  | .subH => [0x94#8]
  | .subL => [0x95#8]
  | .subAtHl => [0x96#8]
  | .subA => [0x97#8]
  | .subImm n => [0xD6#8, n]
  | .cpB => [0xB8#8]
  | .cpC => [0xB9#8]
  | .cpD => [0xBA#8]
  | .cpE => [0xBB#8]
  | .cpH => [0xBC#8]
  | .cpL => [0xBD#8]
  | .cpAtHl => [0xBE#8]
  | .cpA => [0xBF#8]
  | .cpImm n => [0xFE#8, n]
  | .xorA => [0xAF#8]
  | .rla => [0x17#8]
  | .jr e => [0x18#8, e]
  | .jrNz e => [0x20#8, e]
  | .jrZ e => [0x28#8, e]
  | .call nn => [0xCD#8, loByte nn, hiByte nn]
  | .rst38 => [0xFF#8]
  | .ret => [0xC9#8]
  | .pushBc => [0xC5#8]
  | .pushDe => [0xD5#8]
  | .pushHl => [0xE5#8]
  | .popBc => [0xC1#8]
  | .popDe => [0xD1#8]
  | .popHl => [0xE1#8]
  | .ldhAtImmA n => [0xE0#8, n]
  | .ldhAAtImm n => [0xF0#8, n]
  | .ldAtCA => [0xE2#8]
  | .ldAAtC => [0xF2#8]
  | .ldAtImmA nn => [0xEA#8, loByte nn, hiByte nn]
  | .ldAAtImm nn => [0xFA#8, loByte nn, hiByte nn]
  | .rlB => [0xCB#8, 0x10#8]
  | .rlC => [0xCB#8, 0x11#8]
  | .rlD => [0xCB#8, 0x12#8]
  | .rlE => [0xCB#8, 0x13#8]
  | .rlH => [0xCB#8, 0x14#8]
  | .rlL => [0xCB#8, 0x15#8]
  | .rlA => [0xCB#8, 0x17#8]
  | .bit0B => [0xCB#8, 0x40#8]
  | .bit0C => [0xCB#8, 0x41#8]
  | .bit0D => [0xCB#8, 0x42#8]
  | .bit0E => [0xCB#8, 0x43#8]
  | .bit0H => [0xCB#8, 0x44#8]
  | .bit0L => [0xCB#8, 0x45#8]
  | .bit0AtHl => [0xCB#8, 0x46#8]
  | .bit0A => [0xCB#8, 0x47#8]
  | .bit1B => [0xCB#8, 0x48#8]
  | .bit1C => [0xCB#8, 0x49#8]
  | .bit1D => [0xCB#8, 0x4A#8]
  | .bit1E => [0xCB#8, 0x4B#8]
  | .bit1H => [0xCB#8, 0x4C#8]
  | .bit1L => [0xCB#8, 0x4D#8]
  | .bit1AtHl => [0xCB#8, 0x4E#8]
  | .bit1A => [0xCB#8, 0x4F#8]
  | .bit2B => [0xCB#8, 0x50#8]
  | .bit2C => [0xCB#8, 0x51#8]
  | .bit2D => [0xCB#8, 0x52#8]
  | .bit2E => [0xCB#8, 0x53#8]
  | .bit2H => [0xCB#8, 0x54#8]
  | .bit2L => [0xCB#8, 0x55#8]
  | .bit2AtHl => [0xCB#8, 0x56#8]
  | .bit2A => [0xCB#8, 0x57#8]
  | .bit3B => [0xCB#8, 0x58#8]
  | .bit3C => [0xCB#8, 0x59#8]
  | .bit3D => [0xCB#8, 0x5A#8]
  | .bit3E => [0xCB#8, 0x5B#8]
  | .bit3H => [0xCB#8, 0x5C#8]
  | .bit3L => [0xCB#8, 0x5D#8]
  | .bit3AtHl => [0xCB#8, 0x5E#8]
  | .bit3A => [0xCB#8, 0x5F#8]
  | .bit4B => [0xCB#8, 0x60#8]
  | .bit4C => [0xCB#8, 0x61#8]
  | .bit4D => [0xCB#8, 0x62#8]
  | .bit4E => [0xCB#8, 0x63#8]
  | .bit4H => [0xCB#8, 0x64#8]
  | .bit4L => [0xCB#8, 0x65#8]
  | .bit4AtHl => [0xCB#8, 0x66#8]
  | .bit4A => [0xCB#8, 0x67#8]
  | .bit5B => [0xCB#8, 0x68#8]
  | .bit5C => [0xCB#8, 0x69#8]
  | .bit5D => [0xCB#8, 0x6A#8]
  | .bit5E => [0xCB#8, 0x6B#8]
  | .bit5H => [0xCB#8, 0x6C#8]
  | .bit5L => [0xCB#8, 0x6D#8]
  | .bit5AtHl => [0xCB#8, 0x6E#8]
  | .bit5A => [0xCB#8, 0x6F#8]
  | .bit6B => [0xCB#8, 0x70#8]
  | .bit6C => [0xCB#8, 0x71#8]
  | .bit6D => [0xCB#8, 0x72#8]
  | .bit6E => [0xCB#8, 0x73#8]
  | .bit6H => [0xCB#8, 0x74#8]
  | .bit6L => [0xCB#8, 0x75#8]
  | .bit6AtHl => [0xCB#8, 0x76#8]
  | .bit6A => [0xCB#8, 0x77#8]
  | .bit7B => [0xCB#8, 0x78#8]
  | .bit7C => [0xCB#8, 0x79#8]
  | .bit7D => [0xCB#8, 0x7A#8]
  | .bit7E => [0xCB#8, 0x7B#8]
  | .bit7H => [0xCB#8, 0x7C#8]
  | .bit7L => [0xCB#8, 0x7D#8]
  | .bit7AtHl => [0xCB#8, 0x7E#8]
  | .bit7A => [0xCB#8, 0x7F#8]

/-- The length of an instruction in bytes (R140). -/
def Instr.length (i : Instr) : Nat := (encode i).length

/-- The space and opcode byte that select an instruction (R140, R161). -/
def Instr.opcode (i : Instr) : Space × Byte :=
  match encode i with
  | [] => (.primary, 0x00#8)
  | op :: bs => if op = escapeByte then (.extended, bs.headD 0x00#8) else (.primary, op)

/-! ## The words of the opcode table -/

/-- The default implemented set: every row of the opcode table (R13, decision D1). -/
def implAll : ImplSet := fun _ _ => true

/-- The bytes, in address order, of an instruction whose bits are `w` as spec/opcode_table.json numbers them,
padded with zero bytes to the longest instruction. The table numbers a row of one byte, and the operand bytes
after it, from the first byte up. It numbers a row of the 0xCB space the other way: its match 0xCB10 holds the
escape byte, which comes first, in bits 15:8. DEDUCED (log 1). -/
def tableBytes (nbits w : Nat) : List Byte :=
  let byteAt (k : Nat) : Byte := BitVec.ofNat 8 (w >>> (8 * k))
  if nbits = 16 ∧ byteAt 1 = escapeByte then [byteAt 1, byteAt 0, 0x00#8]
  else [byteAt 0, byteAt 1, byteAt 2]

/-- The instruction the decoder reads from a table word; none where it refuses. -/
def decodeTableWord (nbits w : Nat) : Option Instr :=
  match decode implAll (tableBytes nbits (w % 2 ^ nbits)) with
  | .ok (i, _) => some i
  | .error _ => none

end Sys2Proof
end

