-- ==== Sys2Proof/Machine/Params.lean ====
section
/-! DEFINITION. The default values of the parameters (00_scope.md R13 to R17) and the constants of the display and
of the memory map (R12, R18; 20_memory.md R92). -/

namespace Sys2Proof.Machine

/-- The default cost of each instruction in base cycles; the Bool says whether a conditional relative jump was
taken (70_reset_and_hazards.md R380). -/
def defaultCycles : Instr → Bool → Nat
  | .ldBImm _, _ => 2
  | .ldCImm _, _ => 2
  | .ldDImm _, _ => 2
  | .ldEImm _, _ => 2
  | .ldHImm _, _ => 2
  | .ldLImm _, _ => 2
  | .ldAtHlImm _, _ => 3
  | .ldAImm _, _ => 2
  | .ldBcImm _, _ => 3
  | .ldDeImm _, _ => 3
  | .ldHlImm _, _ => 3
  | .ldSpImm _, _ => 3
  | .ldAtBcA, _ => 2
  | .ldAtDeA, _ => 2
  | .ldAAtBc, _ => 2
  | .ldAAtDe, _ => 2
  | .ldAtHlIncA, _ => 2
  | .ldAAtHlInc, _ => 2
  | .ldAtHlDecA, _ => 2
  | .ldAAtHlDec, _ => 2
  | .ldBAtHl, _ => 2
  | .ldCAtHl, _ => 2
  | .ldDAtHl, _ => 2
  | .ldEAtHl, _ => 2
  | .ldHAtHl, _ => 2
  | .ldLAtHl, _ => 2
  | .ldAAtHl, _ => 2
  | .ldAtHlB, _ => 2
  | .ldAtHlC, _ => 2
  | .ldAtHlD, _ => 2
  | .ldAtHlE, _ => 2
  | .ldAtHlH, _ => 2
  | .ldAtHlL, _ => 2
  | .ldAtHlA, _ => 2
  | .ldBB, _ => 1
  | .ldBC, _ => 1
  | .ldBD, _ => 1
  | .ldBE, _ => 1
  | .ldBH, _ => 1
  | .ldBL, _ => 1
  | .ldBA, _ => 1
  | .ldCB, _ => 1
  | .ldCC, _ => 1
  | .ldCD, _ => 1
  | .ldCE, _ => 1
  | .ldCH, _ => 1
  | .ldCL, _ => 1
  | .ldCA, _ => 1
  | .ldDB, _ => 1
  | .ldDC, _ => 1
  | .ldDD, _ => 1
  | .ldDE, _ => 1
  | .ldDH, _ => 1
  | .ldDL, _ => 1
  | .ldDA, _ => 1
  | .ldEB, _ => 1
  | .ldEC, _ => 1
  | .ldED, _ => 1
  | .ldEE, _ => 1
  | .ldEH, _ => 1
  | .ldEL, _ => 1
  | .ldEA, _ => 1
  | .ldHB, _ => 1
  | .ldHC, _ => 1
  | .ldHD, _ => 1
  | .ldHE, _ => 1
  | .ldHH, _ => 1
  | .ldHL, _ => 1
  | .ldHA, _ => 1
  | .ldLB, _ => 1
  | .ldLC, _ => 1
  | .ldLD, _ => 1
  | .ldLE, _ => 1
  | .ldLH, _ => 1
  | .ldLL, _ => 1
  | .ldLA, _ => 1
  | .ldAB, _ => 1
  | .ldAC, _ => 1
  | .ldAD, _ => 1
  | .ldAE, _ => 1
  | .ldAH, _ => 1
  | .ldAL, _ => 1
  | .ldAA, _ => 1
  | .incB, _ => 1
  | .incC, _ => 1
  | .incD, _ => 1
  | .incE, _ => 1
  | .incH, _ => 1
  | .incL, _ => 1
  | .incA, _ => 1
  | .decB, _ => 1
  | .decC, _ => 1
  | .decD, _ => 1
  | .decE, _ => 1
  | .decH, _ => 1
  | .decL, _ => 1
  | .decA, _ => 1
  | .incBc, _ => 2
  | .incDe, _ => 2
  | .incHl, _ => 2
  | .incSp, _ => 2
  | .decSp, _ => 2
  | .addB, _ => 1
  | .addC, _ => 1
  | .addD, _ => 1
  | .addE, _ => 1
  | .addH, _ => 1
  | .addL, _ => 1
  | .addAtHl, _ => 2
  | .addA, _ => 1
  | .addImm _, _ => 2
  | .subB, _ => 1
  | .subC, _ => 1
  | .subD, _ => 1
  | .subE, _ => 1
  | .subH, _ => 1
  | .subL, _ => 1
  | .subAtHl, _ => 2
  | .subA, _ => 1
  | .subImm _, _ => 2
  | .cpB, _ => 1
  | .cpC, _ => 1
  | .cpD, _ => 1
  | .cpE, _ => 1
  | .cpH, _ => 1
  | .cpL, _ => 1
  | .cpAtHl, _ => 2
  | .cpA, _ => 1
  | .cpImm _, _ => 2
  | .xorA, _ => 1
  | .rla, _ => 1
  | .jr _, _ => 3
  | .jrNz _, taken => if taken then 3 else 2
  | .jrZ _, taken => if taken then 3 else 2
  | .call _, _ => 6
  | .rst38, _ => 4
  | .ret, _ => 4
  | .pushBc, _ => 4
  | .pushDe, _ => 4
  | .pushHl, _ => 4
  | .popBc, _ => 3
  | .popDe, _ => 3
  | .popHl, _ => 3
  | .ldhAtImmA _, _ => 3
  | .ldhAAtImm _, _ => 3
  | .ldAtCA, _ => 2
  | .ldAAtC, _ => 2
  | .ldAtImmA _, _ => 4
  | .ldAAtImm _, _ => 4
  | .rlB, _ => 2
  | .rlC, _ => 2
  | .rlD, _ => 2
  | .rlE, _ => 2
  | .rlH, _ => 2
  | .rlL, _ => 2
  | .rlA, _ => 2
  | .bit0B, _ => 2
  | .bit0C, _ => 2
  | .bit0D, _ => 2
  | .bit0E, _ => 2
  | .bit0H, _ => 2
  | .bit0L, _ => 2
  | .bit0AtHl, _ => 3
  | .bit0A, _ => 2
  | .bit1B, _ => 2
  | .bit1C, _ => 2
  | .bit1D, _ => 2
  | .bit1E, _ => 2
  | .bit1H, _ => 2
  | .bit1L, _ => 2
  | .bit1AtHl, _ => 3
  | .bit1A, _ => 2
  | .bit2B, _ => 2
  | .bit2C, _ => 2
  | .bit2D, _ => 2
  | .bit2E, _ => 2
  | .bit2H, _ => 2
  | .bit2L, _ => 2
  | .bit2AtHl, _ => 3
  | .bit2A, _ => 2
  | .bit3B, _ => 2
  | .bit3C, _ => 2
  | .bit3D, _ => 2
  | .bit3E, _ => 2
  | .bit3H, _ => 2
  | .bit3L, _ => 2
  | .bit3AtHl, _ => 3
  | .bit3A, _ => 2
  | .bit4B, _ => 2
  | .bit4C, _ => 2
  | .bit4D, _ => 2
  | .bit4E, _ => 2
  | .bit4H, _ => 2
  | .bit4L, _ => 2
  | .bit4AtHl, _ => 3
  | .bit4A, _ => 2
  | .bit5B, _ => 2
  | .bit5C, _ => 2
  | .bit5D, _ => 2
  | .bit5E, _ => 2
  | .bit5H, _ => 2
  | .bit5L, _ => 2
  | .bit5AtHl, _ => 3
  | .bit5A, _ => 2
  | .bit6B, _ => 2
  | .bit6C, _ => 2
  | .bit6D, _ => 2
  | .bit6E, _ => 2
  | .bit6H, _ => 2
  | .bit6L, _ => 2
  | .bit6AtHl, _ => 3
  | .bit6A, _ => 2
  | .bit7B, _ => 2
  | .bit7C, _ => 2
  | .bit7D, _ => 2
  | .bit7E, _ => 2
  | .bit7H, _ => 2
  | .bit7L, _ => 2
  | .bit7AtHl, _ => 3
  | .bit7A, _ => 2

/-- The default gray levels, shade 0 lightest (R15). -/
def defaultGrayLevels (shade : BitVec 2) : Byte :=
  match shade.toNat with
  | 0 => 255#8
  | 1 => 192#8
  | 2 => 96#8
  | _ => 0#8

/-- The defaults of R13 to R17. -/
def defaultParams : Params where
  implSet := implAll
  cycles := defaultCycles
  grayLevels := defaultGrayLevels
  tilesetPolarity := .direct
  frameBudget := 17556

/-- `BOOT_ROM_SIZE` (R12, R92). -/
def bootRomSize : Nat := 256

/-- `SCREEN_W` (R18). -/
def screenW : Nat := 160

/-- `SCREEN_H` (R18). -/
def screenH : Nat := 144

/-- The bytes of the pixel buffer (10_state.md R66). -/
def pixelBufferSize : Nat := screenW * screenH * 4

/-- `THRESH`, in base cycles of the PPU Clock (R18, 60_exceptions.md R320). -/
def threshold : PpuMode → Nat
  | .oamRead => 20
  | .vramRead => 43
  | .horizontalBlank => 51
  | .verticalBlank => 114

end Sys2Proof.Machine
end

