-- ==== Sys2Proof/Machine/Regions.lean ====
section
/-! DEFINITION. Memory Regions (20_memory.md R80 to R83) and Video Memory with its tile cache (R85 to R89). -/

namespace Sys2Proof.Machine

/-- The fixed length and the address mask of a Memory Region (R80, 00_scope.md R12). -/
structure RegionShape where
  size : Nat
  mask : Nat
deriving DecidableEq, Repr

/-- The boot-ROM region (R12). -/
def bootRegion : RegionShape := ⟨bootRomSize, 0xFF⟩

/-- The cartridge-ROM region (R12, R95). -/
def cartRegion : RegionShape := ⟨0x8000, 0x7FFF⟩

/-- Video Memory (R85). -/
def videoRegion : RegionShape := ⟨8192, 0x1FFF⟩

/-- Working RAM (R99). -/
def workRegion : RegionShape := ⟨8192, 0x1FFF⟩

/-- Zero-page RAM (R105). -/
def zeroPageRegion : RegionShape := ⟨128, 0x7F⟩

/-- The index an address names in a region: `addr & mask` (R80). -/
def RegionShape.index (r : RegionShape) (addr : Nat) : Nat := addr &&& r.mask

/-- `readByte` (R80, R82). -/
def RegionShape.readByte (r : RegionShape) (m : Memory) (addr : Nat) : Byte :=
  Cells.get unlistedByte m (r.index addr)

/-- `writeByte` (R80, R82). -/
def RegionShape.writeByte (r : RegionShape) (m : Memory) (addr : Nat) (v : Byte) : Memory :=
  Cells.set unlistedByte m (r.index addr) v

/-- `readWord` (R83). The MMU does not use it. -/
def RegionShape.readWord (r : RegionShape) (m : Memory) (addr : Nat) : Word :=
  wordOf (r.readByte m (addr + 1)) (r.readByte m addr)

/-- `writeWord` (R83). The MMU does not use it. -/
def RegionShape.writeWord (r : RegionShape) (m : Memory) (addr : Nat) (v : Word) : Memory :=
  r.writeByte (r.writeByte m addr (loByte v)) (addr + 1) (hiByte v)

/-- `getSizeInBytes` (R82). -/
def RegionShape.getSizeInBytes (r : RegionShape) : Nat := r.size

/-- The contents a region resets to from its original data: bytes past the end of a short source are 0x00, bytes
past the region's length are dropped (R81). -/
def RegionShape.restore (r : RegionShape) (source : List Byte) : Memory :=
  Cells.setBlock unlistedByte [] 0 (source.take r.size)

/-! ## Video Memory -/

/-- Pixel `x` of a tile row from its even (low) and odd (high) byte; column 0 is bit 7 (R86, R87). -/
def rowPixel (even odd : Byte) (x : Nat) : BitVec 2 :=
  BitVec.ofBool (bitSet odd (7 - x)) ++ BitVec.ofBool (bitSet even (7 - x))

/-- The eight pixels of a tile row (R86). -/
def decodeRow (even odd : Byte) : List (BitVec 2) := (List.range 8).map (rowPixel even odd)

/-- The place of pixel (t, y, x) in the tile cache (R85). -/
def tileIndexOf (t y x : Nat) : Nat := 64 * t + 8 * y + x

/-- `tile[t][y][x]` (R85). -/
def tilePixel (tiles : TileCache) (t y x : Nat) : BitVec 2 := Cells.get unlistedPixel tiles (tileIndexOf t y x)

/-- Decode the one tile row that holds Video Memory offset `a` again from its two bytes (R86). -/
def redecodeRow (vram : Memory) (tiles : TileCache) (a : Nat) : TileCache :=
  let e := a &&& 0x1FFE
  Cells.setBlock unlistedPixel tiles (tileIndexOf (e >>> 4) ((e >>> 1) &&& 7) 0)
    (decodeRow (videoRegion.readByte vram e) (videoRegion.readByte vram (e + 1)))

/-- The Video Memory write at CPU address `addr` (R86, R97). -/
def videoWrite (s : State) (addr : Nat) (v : Byte) : State :=
  let a := videoRegion.index addr
  let vram := videoRegion.writeByte s.vram a v
  { s with vram := vram, tiles := redecodeRow vram s.tiles a }

end Sys2Proof.Machine
end

