-- ==== Sys2Proof/Machine/Ops.lean ====
section
/-! DEFINITION. The named operations over memory and the stack, and raising the fatal decode error: the PPU
Registers (10_state.md R51 to R60), the MMU (20_memory.md R91 to R105), Fetch (00_scope.md R24), the stack
(45_control.md, 46_stack.md) and DecodeError (60_exceptions.md R300, R301). -/

namespace Sys2Proof.Machine

/-! ## PPU Registers -/

/-- LCDC recomposed from its eight fields (R53). -/
def PpuRegs.lcdc (r : PpuRegs) : Byte :=
  BitVec.ofBool r.displayEnable ++ BitVec.ofBool r.windowMapSel ++ BitVec.ofBool r.windowEnable ++
    BitVec.ofBool r.tilesetBit ++ BitVec.ofBool r.bgMapSel ++ BitVec.ofBool r.spriteSize ++
    BitVec.ofBool r.spriteEnable ++ BitVec.ofBool r.bgEnable

/-- A write of LCDC stores its eight fields (R53). -/
def PpuRegs.setLcdc (r : PpuRegs) (v : Byte) : PpuRegs :=
  { r with
    displayEnable := bitSet v 7, windowMapSel := bitSet v 6, windowEnable := bitSet v 5, tilesetBit := bitSet v 4,
    bgMapSel := bitSet v 3, spriteSize := bitSet v 2, spriteEnable := bitSet v 1, bgEnable := bitSet v 0 }

/-- BGP composed from its four entries (R59). -/
def PpuRegs.bgp (r : PpuRegs) : Byte := r.pal3 ++ r.pal2 ++ r.pal1 ++ r.pal0

/-- A write of BGP sets the four entries: `pal[i] <- (v >> 2i) & 3` (R59). -/
def PpuRegs.setBgp (r : PpuRegs) (v : Byte) : PpuRegs :=
  { r with
    pal0 := v.setWidth 2, pal1 := (v >>> 2).setWidth 2, pal2 := (v >>> 4).setWidth 2,
    pal3 := (v >>> 6).setWidth 2 }

/-- `PPURegRead(a)` (R52 to R60): an address that holds no register reads 0x00 (R55). -/
def ppuRegRead (r : PpuRegs) (addr : Nat) : Byte :=
  if addr = 0xFF40 then r.lcdc
  else if addr = 0xFF42 then r.scy
  else if addr = 0xFF43 then r.scx
  else if addr = 0xFF44 then r.ly
  else if addr = 0xFF45 then r.lyc
  else if addr = 0xFF47 then r.bgp
  else if addr = 0xFF4A then r.wy
  else if addr = 0xFF4B then r.wx
  else 0x00#8

/-- `PPURegWrite(a, v)` (R52 to R60): a write of LY (R57) or of an address that holds no register (R55) is
ignored. -/
def ppuRegWrite (r : PpuRegs) (addr : Nat) (v : Byte) : PpuRegs :=
  if addr = 0xFF40 then r.setLcdc v
  else if addr = 0xFF42 then { r with scy := v }
  else if addr = 0xFF43 then { r with scx := v }
  else if addr = 0xFF45 then { r with lyc := v }
  else if addr = 0xFF47 then r.setBgp v
  else if addr = 0xFF4A then { r with wy := v }
  else if addr = 0xFF4B then { r with wx := v }
  else r

/-! ## The MMU -/

/-- The targets of the address map (R91). -/
inductive Target where
  | bootRom | cartRom | videoMemory | workRam | zeroPage | ppuRegs | stub
deriving DecidableEq, Repr

/-- The one target an address is routed to (R91, R100, R102); `booting` is the boot flag. -/
def route (booting : Bool) (a : Word) : Target :=
  let n := a.toNat
  if n < 0x8000 then if booting && decide (n < bootRomSize) then .bootRom else .cartRom
  else if n < 0xA000 then .videoMemory
  else if n < 0xC000 then .stub
  else if n < 0xFE00 then .workRam
  else if n < 0xFF00 then .stub
  else if 0xFF40 ≤ n ∧ n ≤ 0xFF4B then .ppuRegs
  else if 0xFF80 ≤ n ∧ n ≤ 0xFFFE then .zeroPage
  else .stub

/-- The byte a read of `a` returns, without the read's side effect (R100). -/
def peek (s : State) (a : Word) : Byte :=
  match route s.bootFlag a with
  | .bootRom => bootRegion.readByte s.bootRom a.toNat
  | .cartRom => cartRegion.readByte s.cartRom a.toNat
  | .videoMemory => videoRegion.readByte s.vram a.toNat
  | .workRam => workRegion.readByte s.wram a.toNat
  | .zeroPage => zeroPageRegion.readByte s.zram a.toNat
  | .ppuRegs => ppuRegRead s.ppu a.toNat
  | .stub => 0x00#8

/-- The side effect of a read: a read of `BOOT_ROM_SIZE` while booting clears the boot flag (R93). -/
def afterRead (s : State) (a : Word) : State :=
  if s.bootFlag && a.toNat == bootRomSize then { s with bootFlag := false } else s

/-- `MemRead(a, 1)` (R23, R100). -/
def memRead (s : State) (a : Word) : Byte × State := (peek s a, afterRead s a)

/-- `MemWrite(a, 1, v)` (R23, R102): a write of ROM or of a stub changes nothing (R90, R94). -/
def memWrite (s : State) (a : Word) (v : Byte) : State :=
  match route s.bootFlag a with
  | .videoMemory => videoWrite s a.toNat v
  | .workRam => { s with wram := workRegion.writeByte s.wram a.toNat v }
  | .zeroPage => { s with zram := zeroPageRegion.writeByte s.zram a.toNat v }
  | .ppuRegs => { s with ppu := ppuRegWrite s.ppu a.toNat v }
  | .bootRom => s
  | .cartRom => s
  | .stub => s

/-- `MemRead(a, 2)`: two byte reads, low byte first, the address wrapping (R23, R101). -/
def memRead16 (s : State) (a : Word) : Word × State :=
  let lo := memRead s a
  let hi := memRead lo.2 (a + 1#16)
  (wordOf hi.1 lo.1, hi.2)

/-- `MemWrite(a, 2, v)`: two byte writes, low byte first, the address wrapping (R23, R101). -/
def memWrite16 (s : State) (a : Word) (v : Word) : State :=
  memWrite (memWrite s a (loByte v)) (a + 1#16) (hiByte v)

/-- `Fetch()` (R24). -/
def fetch (s : State) : Byte × State :=
  let v := memRead s s.pc
  (v.1, { v.2 with pc := v.2.pc + 1#16 })

/-- `Fetch16()` (R24). -/
def fetch16 (s : State) : Word × State :=
  let lo := fetch s
  let hi := fetch lo.2
  (wordOf hi.1 lo.1, hi.2)

/-! ## Memory operands (30_encoding.md R144) -/

/-- Read the byte at `x[HL]` (R144). -/
def readAtHl (s : State) : Byte × State := memRead s (s.pair .hl)

/-- Write the byte at `x[HL]` (R144). -/
def writeAtHl (s : State) (v : Byte) : State := memWrite s (s.pair .hl) v

/-! ## The stack -/

/-- Push one byte: SP decrements, then the byte is written (R250). -/
def pushByte (s : State) (v : Byte) : State :=
  let s := { s with sp := s.sp - 1#16 }
  memWrite s s.sp v

/-- Pop one byte: the byte is read, then SP increments (R251). -/
def popByte (s : State) : Byte × State :=
  let v := memRead s s.sp
  (v.1, { v.2 with sp := v.2.sp + 1#16 })

/-- Push PC for a call: SP goes down by 2, then the word is written (R243, R244). -/
def pushPc (s : State) : State :=
  let s := { s with sp := s.sp - 2#16 }
  memWrite16 s s.sp s.pc

/-! ## The fatal decode error -/

/-- `raise DecodeError(space, byte)`: the CPU stops and keeps the record; nothing else changes (R300, R301). There
is no return from it: only Reset leaves the stopped state (R306). -/
def raiseDecodeError (sp : Space) (byte : Byte) (s : State) : State :=
  { s with stopped := true, error := some ⟨sp, byte⟩ }

end Sys2Proof.Machine
end

