-- ==== Sys2Proof/Machine/Alu.lean ====
section
/-! DEFINITION. Arithmetic, compare and XOR A (43_alu.md R205 to R219). -/

namespace Sys2Proof.Machine

/-! ## Shared operations -/

/-- `AddOp(v)` (R205). -/
def addByte (v : Byte) (s : State) : Result := .next { s with a := s.a + v, f := addFlags s.a v }

/-- `SubOp(v, store = true)` (R206). -/
def subByte (v : Byte) (s : State) : Result := .next { s with a := s.a - v, f := subFlags s.a v }

/-- `SubOp(v, store = false)`: the flags of SUB, A unchanged (R206, R216). -/
def compareByte (v : Byte) (s : State) : Result := .next { s with f := subFlags s.a v }

/-- `v <- MemRead(x[HL], 1); AddOp(v)` (R211). -/
def addAtHl (s : State) : Result :=
  let v := readAtHl s
  addByte v.1 v.2

/-- `v <- MemRead(x[HL], 1); SubOp(v, store = true)` (R214). -/
def subAtHl (s : State) : Result :=
  let v := readAtHl s
  subByte v.1 v.2

/-- `v <- MemRead(x[HL], 1); SubOp(v, store = false)` (R217). -/
def compareAtHl (s : State) : Result :=
  let v := readAtHl s
  compareByte v.1 v.2

/-- `x[A] <- 0x00; F <- 0x80` (R219). -/
def clearA (s : State) : Result := .next { s with a := 0x00#8, f := xorSelfFlags }

/-! ## The instructions -/

/-- ADD A,B (R210). -/
def execAddB (s : State) : Result := addByte (s.reg8 .b) s

/-- ADD A,C (R210). -/
def execAddC (s : State) : Result := addByte (s.reg8 .c) s

/-- ADD A,D (R210). -/
def execAddD (s : State) : Result := addByte (s.reg8 .d) s

/-- ADD A,E (R210). -/
def execAddE (s : State) : Result := addByte (s.reg8 .e) s

/-- ADD A,H (R210). -/
def execAddH (s : State) : Result := addByte (s.reg8 .h) s

/-- ADD A,L (R210). -/
def execAddL (s : State) : Result := addByte (s.reg8 .l) s

/-- ADD A,(HL) (R211). -/
def execAddAtHl (s : State) : Result := addAtHl s

/-- ADD A,A (R210). -/
def execAddA (s : State) : Result := addByte (s.reg8 .a) s

/-- ADD A,n (R212). -/
def execAddImm (n : Byte) (s : State) : Result := addByte n s

/-- SUB B (R213). -/
def execSubB (s : State) : Result := subByte (s.reg8 .b) s

/-- SUB C (R213). -/
def execSubC (s : State) : Result := subByte (s.reg8 .c) s

/-- SUB D (R213). -/
def execSubD (s : State) : Result := subByte (s.reg8 .d) s

/-- SUB E (R213). -/
def execSubE (s : State) : Result := subByte (s.reg8 .e) s

/-- SUB H (R213). -/
def execSubH (s : State) : Result := subByte (s.reg8 .h) s

/-- SUB L (R213). -/
def execSubL (s : State) : Result := subByte (s.reg8 .l) s

/-- SUB (HL) (R214). -/
def execSubAtHl (s : State) : Result := subAtHl s

/-- SUB A (R213). -/
def execSubA (s : State) : Result := subByte (s.reg8 .a) s

/-- SUB n (R215). -/
def execSubImm (n : Byte) (s : State) : Result := subByte n s

/-- CP B (R216). -/
def execCpB (s : State) : Result := compareByte (s.reg8 .b) s

/-- CP C (R216). -/
def execCpC (s : State) : Result := compareByte (s.reg8 .c) s

/-- CP D (R216). -/
def execCpD (s : State) : Result := compareByte (s.reg8 .d) s

/-- CP E (R216). -/
def execCpE (s : State) : Result := compareByte (s.reg8 .e) s

/-- CP H (R216). -/
def execCpH (s : State) : Result := compareByte (s.reg8 .h) s

/-- CP L (R216). -/
def execCpL (s : State) : Result := compareByte (s.reg8 .l) s

/-- CP (HL) (R217). -/
def execCpAtHl (s : State) : Result := compareAtHl s

/-- CP A (R216). -/
def execCpA (s : State) : Result := compareByte (s.reg8 .a) s

/-- CP n (R218). -/
def execCpImm (n : Byte) (s : State) : Result := compareByte n s

/-- XOR A (R219). -/
def execXorA (s : State) : Result := clearA s

end Sys2Proof.Machine
end

