-- ==== Sys2Proof/Machine/Control.lean ====
section
/-! DEFINITION. Relative jump, call, restart, return (45_control.md R239 to R245). On entry PC is the address
after the instruction's last byte (00_scope.md R25). -/

namespace Sys2Proof.Machine

/-! ## Shared operations -/

/-- `JumpRel(e)`: `PC <- (PC + d) & 0xFFFF` with the signed displacement d (R239; the mask is 10_state.md R37). -/
def jumpRel (e : Byte) (s : State) : State :=
  { s with pc := BitVec.ofInt 16 ((s.pc.toNat : Int) + displacement e) }

/-- JumpRel if the condition holds (R240, R241, R242). -/
def jumpRelIf (cond : Bool) (e : Byte) (s : State) : Result := .next (if cond then jumpRel e s else s)

/-- `SP <- SP - 2; MemWrite(SP, 2, PC); PC <- target` (R243, R244). -/
def callTo (target : Word) (s : State) : Result := .next { pushPc s with pc := target }

/-- `PC <- MemRead(SP, 2); SP <- SP + 2` (R245). -/
def returnToCaller (s : State) : Result :=
  let w := memRead16 s s.sp
  .next { w.2 with pc := w.1, sp := w.2.sp + 2#16 }

/-! ## The instructions -/

/-- JR e (R240). -/
def execJr (e : Byte) (s : State) : Result := jumpRelIf true e s

/-- JR NZ,e (R241). -/
def execJrNz (e : Byte) (s : State) : Result := jumpRelIf (!s.zFlag) e s

/-- JR Z,e (R242). -/
def execJrZ (e : Byte) (s : State) : Result := jumpRelIf s.zFlag e s

/-- CALL nn (R243). -/
def execCall (nn : Word) (s : State) : Result := callTo nn s

/-- RST 38H (R244). -/
def execRst38 (s : State) : Result := callTo 0x0038#16 s

/-- RET (R245). -/
def execRet (s : State) : Result := returnToCaller s

end Sys2Proof.Machine
end

