-- ==== Sys2Proof/Machine/Loads.lean ====
section
/-! DEFINITION. The loads (41_loads.md R180 to R193). The operand bytes are already fetched (log 8);
no load writes a flag. -/

namespace Sys2Proof.Machine

/-! ## Shared operations -/

/-- `x[r] <- n` (R180). -/
def loadImm (r : Reg8) (n : Byte) (s : State) : Result := .next (s.setReg8 r n)

/-- `MemWrite(x[HL], 1, n)` (R181). -/
def storeImmAtHl (n : Byte) (s : State) : Result := .next (writeAtHl s n)

/-- `x[rr] <- nn`, or `SP <- nn` (R182). -/
def loadImm16 (r : Reg16) (nn : Word) (s : State) : Result := .next (s.setReg16 r nn)

/-- `MemWrite(a, 1, x[A])` (R183, R184, R255, R257, R259). -/
def storeAAt (addr : Word) (s : State) : Result := .next (memWrite s addr s.a)

/-- `x[A] <- MemRead(a, 1)` (R185, R186, R256, R258, R260). -/
def loadAFrom (addr : Word) (s : State) : Result :=
  let v := memRead s addr
  .next (v.2.setReg8 .a v.1)

/-- `a <- x[HL]; MemWrite(a, 1, x[A]); x[HL] <- moved` (R187, R189). -/
def storeAAtHlThenMove (moved : Word) (s : State) : Result := .next ((writeAtHl s s.a).setPair .hl moved)

/-- `a <- x[HL]; x[A] <- MemRead(a, 1); x[HL] <- moved` (R188, R190). -/
def loadAFromHlThenMove (moved : Word) (s : State) : Result :=
  let v := readAtHl s
  .next ((v.2.setReg8 .a v.1).setPair .hl moved)

/-- `a <- x[HL]; x[r] <- MemRead(a, 1)`: the address is taken before H or L is overwritten (R191). -/
def loadFromHl (r : Reg8) (s : State) : Result :=
  let v := readAtHl s
  .next (v.2.setReg8 r v.1)

/-- `MemWrite(x[HL], 1, x[r])` (R192). -/
def storeAtHl (r : Reg8) (s : State) : Result := .next (writeAtHl s (s.reg8 r))

/-- `x[d] <- x[s]` (R193). -/
def copyReg (dst src : Reg8) (s : State) : Result := .next (s.setReg8 dst (s.reg8 src))

/-! ## The instructions -/

/-- LD B,n (R180). -/
def execLdBImm (n : Byte) (s : State) : Result := loadImm .b n s

/-- LD C,n (R180). -/
def execLdCImm (n : Byte) (s : State) : Result := loadImm .c n s

/-- LD D,n (R180). -/
def execLdDImm (n : Byte) (s : State) : Result := loadImm .d n s

/-- LD E,n (R180). -/
def execLdEImm (n : Byte) (s : State) : Result := loadImm .e n s

/-- LD H,n (R180). -/
def execLdHImm (n : Byte) (s : State) : Result := loadImm .h n s

/-- LD L,n (R180). -/
def execLdLImm (n : Byte) (s : State) : Result := loadImm .l n s

/-- LD (HL),n (R181). -/
def execLdAtHlImm (n : Byte) (s : State) : Result := storeImmAtHl n s

/-- LD A,n (R180). -/
def execLdAImm (n : Byte) (s : State) : Result := loadImm .a n s

/-- LD BC,nn (R182). -/
def execLdBcImm (nn : Word) (s : State) : Result := loadImm16 .bc nn s

/-- LD DE,nn (R182). -/
def execLdDeImm (nn : Word) (s : State) : Result := loadImm16 .de nn s

/-- LD HL,nn (R182). -/
def execLdHlImm (nn : Word) (s : State) : Result := loadImm16 .hl nn s

/-- LD SP,nn (R182). -/
def execLdSpImm (nn : Word) (s : State) : Result := loadImm16 .sp nn s

/-- LD (BC),A (R183). -/
def execLdAtBcA (s : State) : Result := storeAAt (s.pair .bc) s

/-- LD (DE),A (R184). -/
def execLdAtDeA (s : State) : Result := storeAAt (s.pair .de) s

/-- LD A,(BC) (R185). -/
def execLdAAtBc (s : State) : Result := loadAFrom (s.pair .bc) s

/-- LD A,(DE) (R186). -/
def execLdAAtDe (s : State) : Result := loadAFrom (s.pair .de) s

/-- LD (HL+),A (R187). -/
def execLdAtHlIncA (s : State) : Result := storeAAtHlThenMove (s.pair .hl + 1#16) s

/-- LD A,(HL+) (R188). -/
def execLdAAtHlInc (s : State) : Result := loadAFromHlThenMove (s.pair .hl + 1#16) s

/-- LD (HL-),A (R189). -/
def execLdAtHlDecA (s : State) : Result := storeAAtHlThenMove (s.pair .hl - 1#16) s

/-- LD A,(HL-) (R190). -/
def execLdAAtHlDec (s : State) : Result := loadAFromHlThenMove (s.pair .hl - 1#16) s

/-- LD B,(HL) (R191). -/
def execLdBAtHl (s : State) : Result := loadFromHl .b s

/-- LD C,(HL) (R191). -/
def execLdCAtHl (s : State) : Result := loadFromHl .c s

/-- LD D,(HL) (R191). -/
def execLdDAtHl (s : State) : Result := loadFromHl .d s

/-- LD E,(HL) (R191). -/
def execLdEAtHl (s : State) : Result := loadFromHl .e s

/-- LD H,(HL) (R191). -/
def execLdHAtHl (s : State) : Result := loadFromHl .h s

/-- LD L,(HL) (R191). -/
def execLdLAtHl (s : State) : Result := loadFromHl .l s

/-- LD A,(HL) (R191). -/
def execLdAAtHl (s : State) : Result := loadFromHl .a s

/-- LD (HL),B (R192). -/
def execLdAtHlB (s : State) : Result := storeAtHl .b s

/-- LD (HL),C (R192). -/
def execLdAtHlC (s : State) : Result := storeAtHl .c s

/-- LD (HL),D (R192). -/
def execLdAtHlD (s : State) : Result := storeAtHl .d s

/-- LD (HL),E (R192). -/
def execLdAtHlE (s : State) : Result := storeAtHl .e s

/-- LD (HL),H (R192). -/
def execLdAtHlH (s : State) : Result := storeAtHl .h s

/-- LD (HL),L (R192). -/
def execLdAtHlL (s : State) : Result := storeAtHl .l s

/-- LD (HL),A (R192). -/
def execLdAtHlA (s : State) : Result := storeAtHl .a s

/-- LD B,B (R193). -/
def execLdBB (s : State) : Result := copyReg .b .b s

/-- LD B,C (R193). -/
def execLdBC (s : State) : Result := copyReg .b .c s

/-- LD B,D (R193). -/
def execLdBD (s : State) : Result := copyReg .b .d s

/-- LD B,E (R193). -/
def execLdBE (s : State) : Result := copyReg .b .e s

/-- LD B,H (R193). -/
def execLdBH (s : State) : Result := copyReg .b .h s

/-- LD B,L (R193). -/
def execLdBL (s : State) : Result := copyReg .b .l s

/-- LD B,A (R193). -/
def execLdBA (s : State) : Result := copyReg .b .a s

/-- LD C,B (R193). -/
def execLdCB (s : State) : Result := copyReg .c .b s

/-- LD C,C (R193). -/
def execLdCC (s : State) : Result := copyReg .c .c s

/-- LD C,D (R193). -/
def execLdCD (s : State) : Result := copyReg .c .d s

/-- LD C,E (R193). -/
def execLdCE (s : State) : Result := copyReg .c .e s

/-- LD C,H (R193). -/
def execLdCH (s : State) : Result := copyReg .c .h s

/-- LD C,L (R193). -/
def execLdCL (s : State) : Result := copyReg .c .l s

/-- LD C,A (R193). -/
def execLdCA (s : State) : Result := copyReg .c .a s

/-- LD D,B (R193). -/
def execLdDB (s : State) : Result := copyReg .d .b s

/-- LD D,C (R193). -/
def execLdDC (s : State) : Result := copyReg .d .c s

/-- LD D,D (R193). -/
def execLdDD (s : State) : Result := copyReg .d .d s

/-- LD D,E (R193). -/
def execLdDE (s : State) : Result := copyReg .d .e s

/-- LD D,H (R193). -/
def execLdDH (s : State) : Result := copyReg .d .h s

/-- LD D,L (R193). -/
def execLdDL (s : State) : Result := copyReg .d .l s

/-- LD D,A (R193). -/
def execLdDA (s : State) : Result := copyReg .d .a s

/-- LD E,B (R193). -/
def execLdEB (s : State) : Result := copyReg .e .b s

/-- LD E,C (R193). -/
def execLdEC (s : State) : Result := copyReg .e .c s

/-- LD E,D (R193). -/
def execLdED (s : State) : Result := copyReg .e .d s

/-- LD E,E (R193). -/
def execLdEE (s : State) : Result := copyReg .e .e s

/-- LD E,H (R193). -/
def execLdEH (s : State) : Result := copyReg .e .h s

/-- LD E,L (R193). -/
def execLdEL (s : State) : Result := copyReg .e .l s

/-- LD E,A (R193). -/
def execLdEA (s : State) : Result := copyReg .e .a s

/-- LD H,B (R193). -/
def execLdHB (s : State) : Result := copyReg .h .b s

/-- LD H,C (R193). -/
def execLdHC (s : State) : Result := copyReg .h .c s

/-- LD H,D (R193). -/
def execLdHD (s : State) : Result := copyReg .h .d s

/-- LD H,E (R193). -/
def execLdHE (s : State) : Result := copyReg .h .e s

/-- LD H,H (R193). -/
def execLdHH (s : State) : Result := copyReg .h .h s

/-- LD H,L (R193). -/
def execLdHL (s : State) : Result := copyReg .h .l s

/-- LD H,A (R193). -/
def execLdHA (s : State) : Result := copyReg .h .a s

/-- LD L,B (R193). -/
def execLdLB (s : State) : Result := copyReg .l .b s

/-- LD L,C (R193). -/
def execLdLC (s : State) : Result := copyReg .l .c s

/-- LD L,D (R193). -/
def execLdLD (s : State) : Result := copyReg .l .d s

/-- LD L,E (R193). -/
def execLdLE (s : State) : Result := copyReg .l .e s

/-- LD L,H (R193). -/
def execLdLH (s : State) : Result := copyReg .l .h s

/-- LD L,L (R193). -/
def execLdLL (s : State) : Result := copyReg .l .l s

/-- LD L,A (R193). -/
def execLdLA (s : State) : Result := copyReg .l .a s

/-- LD A,B (R193). -/
def execLdAB (s : State) : Result := copyReg .a .b s

/-- LD A,C (R193). -/
def execLdAC (s : State) : Result := copyReg .a .c s

/-- LD A,D (R193). -/
def execLdAD (s : State) : Result := copyReg .a .d s

/-- LD A,E (R193). -/
def execLdAE (s : State) : Result := copyReg .a .e s

/-- LD A,H (R193). -/
def execLdAH (s : State) : Result := copyReg .a .h s

/-- LD A,L (R193). -/
def execLdAL (s : State) : Result := copyReg .a .l s

/-- LD A,A (R193). -/
def execLdAA (s : State) : Result := copyReg .a .a s

end Sys2Proof.Machine
end

