-- ==== Sys2Proof/Machine/HighPage.lean ====
section
/-! DEFINITION. High-page and absolute-address loads and stores (47_highpage_absolute.md R255 to
R260), over the shared load and store of A. -/

namespace Sys2Proof.Machine

/-! ## The instructions -/

/-- LDH (n),A (R255). -/
def execLdhAtImmA (n : Byte) (s : State) : Result := storeAAt (highPage n) s

/-- LDH A,(n) (R256). -/
def execLdhAAtImm (n : Byte) (s : State) : Result := loadAFrom (highPage n) s

/-- LD (C),A (R257). -/
def execLdAtCA (s : State) : Result := storeAAt (highPage s.c) s

/-- LD A,(C) (R258). -/
def execLdAAtC (s : State) : Result := loadAFrom (highPage s.c) s

/-- LD (nn),A (R259). -/
def execLdAtImmA (nn : Word) (s : State) : Result := storeAAt nn s

/-- LD A,(nn) (R260). -/
def execLdAAtImm (nn : Word) (s : State) : Result := loadAFrom nn s

end Sys2Proof.Machine
end

