-- ==== Sys2Proof/Machine/IncDec.lean ====
section
/-! DEFINITION. Increment and decrement (42_incdec.md R200 to R203). -/

namespace Sys2Proof.Machine

/-! ## Shared operations -/

/-- `res <- (old + 1) & 0xFF`, with Z, N = 0 and H, C kept (R200). -/
def incReg8 (r : Reg8) (s : State) : Result :=
  let old := s.reg8 r
  .next ({ s with f := incFlags old s.cFlag }.setReg8 r (old + 1#8))

/-- `res <- (old - 1) & 0xFF`, with Z, N = 1 and H, C kept (R201). -/
def decReg8 (r : Reg8) (s : State) : Result :=
  let old := s.reg8 r
  .next ({ s with f := decFlags old s.cFlag }.setReg8 r (old - 1#8))

/-- `x[rr] <- (x[rr] + 1) & 0xFFFF`, no flag (R202). -/
def incReg16 (r : Reg16) (s : State) : Result := .next (s.setReg16 r (s.reg16 r + 1#16))

/-- `x[rr] <- (x[rr] - 1) & 0xFFFF`, no flag (R203). -/
def decReg16 (r : Reg16) (s : State) : Result := .next (s.setReg16 r (s.reg16 r - 1#16))

/-! ## The instructions -/

/-- INC B (R200). -/
def execIncB (s : State) : Result := incReg8 .b s

/-- INC C (R200). -/
def execIncC (s : State) : Result := incReg8 .c s

/-- INC D (R200). -/
def execIncD (s : State) : Result := incReg8 .d s

/-- INC E (R200). -/
def execIncE (s : State) : Result := incReg8 .e s

/-- INC H (R200). -/
def execIncH (s : State) : Result := incReg8 .h s

/-- INC L (R200). -/
def execIncL (s : State) : Result := incReg8 .l s

/-- INC A (R200). -/
def execIncA (s : State) : Result := incReg8 .a s

/-- DEC B (R201). -/
def execDecB (s : State) : Result := decReg8 .b s

/-- DEC C (R201). -/
def execDecC (s : State) : Result := decReg8 .c s

/-- DEC D (R201). -/
def execDecD (s : State) : Result := decReg8 .d s

/-- DEC E (R201). -/
def execDecE (s : State) : Result := decReg8 .e s

/-- DEC H (R201). -/
def execDecH (s : State) : Result := decReg8 .h s

/-- DEC L (R201). -/
def execDecL (s : State) : Result := decReg8 .l s

/-- DEC A (R201). -/
def execDecA (s : State) : Result := decReg8 .a s

/-- INC BC (R202). -/
def execIncBc (s : State) : Result := incReg16 .bc s

/-- INC DE (R202). -/
def execIncDe (s : State) : Result := incReg16 .de s

/-- INC HL (R202). -/
def execIncHl (s : State) : Result := incReg16 .hl s

/-- INC SP (R202). -/
def execIncSp (s : State) : Result := incReg16 .sp s

/-- DEC SP (R203). -/
def execDecSp (s : State) : Result := decReg16 .sp s

end Sys2Proof.Machine
end

