-- ==== Sys2Proof/Machine/RotateBit.lean ====
section
/-! DEFINITION. Rotate left through carry and bit test (44_rotate_bit.md R229 to R233). -/

namespace Sys2Proof.Machine

/-! ## Shared operations -/

/-- `x[r] <- RotL(x[r])` (R229, R230, R231); the C read is the old C. -/
def rotateReg (r : Reg8) (s : State) : Result :=
  let old := s.reg8 r
  .next ({ s with f := rotateFlags old s.cFlag }.setReg8 r (rotateLeft old s.cFlag))

/-- The flags of the tested bit; the register is not written (R232). -/
def testRegBit (k : Nat) (r : Reg8) (s : State) : Result := .next { s with f := bitFlags (s.reg8 r) k s.cFlag }

/-- `v <- MemRead(x[HL], 1)`, then the flags of the tested bit (R233). -/
def testBitAtHl (k : Nat) (s : State) : Result :=
  let v := readAtHl s
  .next { v.2 with f := bitFlags v.1 k v.2.cFlag }

/-! ## The instructions -/

/-- RLA (R230). -/
def execRla (s : State) : Result := rotateReg .a s

/-- RL B (R231). -/
def execRlB (s : State) : Result := rotateReg .b s

/-- RL C (R231). -/
def execRlC (s : State) : Result := rotateReg .c s

/-- RL D (R231). -/
def execRlD (s : State) : Result := rotateReg .d s

/-- RL E (R231). -/
def execRlE (s : State) : Result := rotateReg .e s

/-- RL H (R231). -/
def execRlH (s : State) : Result := rotateReg .h s

/-- RL L (R231). -/
def execRlL (s : State) : Result := rotateReg .l s

/-- RL A (R231). -/
def execRlA (s : State) : Result := rotateReg .a s

/-- BIT 0,B (R232). -/
def execBit0B (s : State) : Result := testRegBit 0 .b s

/-- BIT 0,C (R232). -/
def execBit0C (s : State) : Result := testRegBit 0 .c s

/-- BIT 0,D (R232). -/
def execBit0D (s : State) : Result := testRegBit 0 .d s

/-- BIT 0,E (R232). -/
def execBit0E (s : State) : Result := testRegBit 0 .e s

/-- BIT 0,H (R232). -/
def execBit0H (s : State) : Result := testRegBit 0 .h s

/-- BIT 0,L (R232). -/
def execBit0L (s : State) : Result := testRegBit 0 .l s

/-- BIT 0,(HL) (R233). -/
def execBit0AtHl (s : State) : Result := testBitAtHl 0 s

/-- BIT 0,A (R232). -/
def execBit0A (s : State) : Result := testRegBit 0 .a s

/-- BIT 1,B (R232). -/
def execBit1B (s : State) : Result := testRegBit 1 .b s

/-- BIT 1,C (R232). -/
def execBit1C (s : State) : Result := testRegBit 1 .c s

/-- BIT 1,D (R232). -/
def execBit1D (s : State) : Result := testRegBit 1 .d s

/-- BIT 1,E (R232). -/
def execBit1E (s : State) : Result := testRegBit 1 .e s

/-- BIT 1,H (R232). -/
def execBit1H (s : State) : Result := testRegBit 1 .h s

/-- BIT 1,L (R232). -/
def execBit1L (s : State) : Result := testRegBit 1 .l s

/-- BIT 1,(HL) (R233). -/
def execBit1AtHl (s : State) : Result := testBitAtHl 1 s

/-- BIT 1,A (R232). -/
def execBit1A (s : State) : Result := testRegBit 1 .a s

/-- BIT 2,B (R232). -/
def execBit2B (s : State) : Result := testRegBit 2 .b s

/-- BIT 2,C (R232). -/
def execBit2C (s : State) : Result := testRegBit 2 .c s

/-- BIT 2,D (R232). -/
def execBit2D (s : State) : Result := testRegBit 2 .d s

/-- BIT 2,E (R232). -/
def execBit2E (s : State) : Result := testRegBit 2 .e s

/-- BIT 2,H (R232). -/
def execBit2H (s : State) : Result := testRegBit 2 .h s

/-- BIT 2,L (R232). -/
def execBit2L (s : State) : Result := testRegBit 2 .l s

/-- BIT 2,(HL) (R233). -/
def execBit2AtHl (s : State) : Result := testBitAtHl 2 s

/-- BIT 2,A (R232). -/
def execBit2A (s : State) : Result := testRegBit 2 .a s

/-- BIT 3,B (R232). -/
def execBit3B (s : State) : Result := testRegBit 3 .b s

/-- BIT 3,C (R232). -/
def execBit3C (s : State) : Result := testRegBit 3 .c s

/-- BIT 3,D (R232). -/
def execBit3D (s : State) : Result := testRegBit 3 .d s

/-- BIT 3,E (R232). -/
def execBit3E (s : State) : Result := testRegBit 3 .e s

/-- BIT 3,H (R232). -/
def execBit3H (s : State) : Result := testRegBit 3 .h s

/-- BIT 3,L (R232). -/
def execBit3L (s : State) : Result := testRegBit 3 .l s

/-- BIT 3,(HL) (R233). -/
def execBit3AtHl (s : State) : Result := testBitAtHl 3 s

/-- BIT 3,A (R232). -/
def execBit3A (s : State) : Result := testRegBit 3 .a s

/-- BIT 4,B (R232). -/
def execBit4B (s : State) : Result := testRegBit 4 .b s

/-- BIT 4,C (R232). -/
def execBit4C (s : State) : Result := testRegBit 4 .c s

/-- BIT 4,D (R232). -/
def execBit4D (s : State) : Result := testRegBit 4 .d s

/-- BIT 4,E (R232). -/
def execBit4E (s : State) : Result := testRegBit 4 .e s

/-- BIT 4,H (R232). -/
def execBit4H (s : State) : Result := testRegBit 4 .h s

/-- BIT 4,L (R232). -/
def execBit4L (s : State) : Result := testRegBit 4 .l s

/-- BIT 4,(HL) (R233). -/
def execBit4AtHl (s : State) : Result := testBitAtHl 4 s

/-- BIT 4,A (R232). -/
def execBit4A (s : State) : Result := testRegBit 4 .a s

/-- BIT 5,B (R232). -/
def execBit5B (s : State) : Result := testRegBit 5 .b s

/-- BIT 5,C (R232). -/
def execBit5C (s : State) : Result := testRegBit 5 .c s

/-- BIT 5,D (R232). -/
def execBit5D (s : State) : Result := testRegBit 5 .d s

/-- BIT 5,E (R232). -/
def execBit5E (s : State) : Result := testRegBit 5 .e s

/-- BIT 5,H (R232). -/
def execBit5H (s : State) : Result := testRegBit 5 .h s

/-- BIT 5,L (R232). -/
def execBit5L (s : State) : Result := testRegBit 5 .l s

/-- BIT 5,(HL) (R233). -/
def execBit5AtHl (s : State) : Result := testBitAtHl 5 s

/-- BIT 5,A (R232). -/
def execBit5A (s : State) : Result := testRegBit 5 .a s

/-- BIT 6,B (R232). -/
def execBit6B (s : State) : Result := testRegBit 6 .b s

/-- BIT 6,C (R232). -/
def execBit6C (s : State) : Result := testRegBit 6 .c s

/-- BIT 6,D (R232). -/
def execBit6D (s : State) : Result := testRegBit 6 .d s

/-- BIT 6,E (R232). -/
def execBit6E (s : State) : Result := testRegBit 6 .e s

/-- BIT 6,H (R232). -/
def execBit6H (s : State) : Result := testRegBit 6 .h s

/-- BIT 6,L (R232). -/
def execBit6L (s : State) : Result := testRegBit 6 .l s

/-- BIT 6,(HL) (R233). -/
def execBit6AtHl (s : State) : Result := testBitAtHl 6 s

/-- BIT 6,A (R232). -/
def execBit6A (s : State) : Result := testRegBit 6 .a s

/-- BIT 7,B (R232). -/
def execBit7B (s : State) : Result := testRegBit 7 .b s

/-- BIT 7,C (R232). -/
def execBit7C (s : State) : Result := testRegBit 7 .c s

/-- BIT 7,D (R232). -/
def execBit7D (s : State) : Result := testRegBit 7 .d s

/-- BIT 7,E (R232). -/
def execBit7E (s : State) : Result := testRegBit 7 .e s

/-- BIT 7,H (R232). -/
def execBit7H (s : State) : Result := testRegBit 7 .h s

/-- BIT 7,L (R232). -/
def execBit7L (s : State) : Result := testRegBit 7 .l s

/-- BIT 7,(HL) (R233). -/
def execBit7AtHl (s : State) : Result := testBitAtHl 7 s

/-- BIT 7,A (R232). -/
def execBit7A (s : State) : Result := testRegBit 7 .a s

end Sys2Proof.Machine
end

