-- ==== Sys2Proof/Machine/Stack.lean ====
section
/-! DEFINITION. PUSH and POP (46_stack.md R250, R251). -/

namespace Sys2Proof.Machine

/-! ## Shared operations -/

/-- High byte first, then low (R250). -/
def pushPair (q : Pair) (s : State) : Result :=
  let v := s.pair q
  .next (pushByte (pushByte s (hiByte v)) (loByte v))

/-- Low byte first, then high (R251). -/
def popPair (q : Pair) (s : State) : Result :=
  let lo := popByte s
  let hi := popByte lo.2
  .next (hi.2.setPair q (wordOf hi.1 lo.1))

/-! ## The instructions -/

/-- PUSH BC (R250). -/
def execPushBc (s : State) : Result := pushPair .bc s

/-- PUSH DE (R250). -/
def execPushDe (s : State) : Result := pushPair .de s

/-- PUSH HL (R250). -/
def execPushHl (s : State) : Result := pushPair .hl s

/-- POP BC (R251). -/
def execPopBc (s : State) : Result := popPair .bc s

/-- POP DE (R251). -/
def execPopDe (s : State) : Result := popPair .de s

/-- POP HL (R251). -/
def execPopHl (s : State) : Result := popPair .hl s

end Sys2Proof.Machine
end

