-- ==== Sys2Proof/Machine/Ppu.lean ====
section
/-! DEFINITION. The Clocks (60_exceptions.md R310 to R313), the PPU timing state machine (R320 to R326) and the
scanline renderer (R330 to R334). -/

namespace Sys2Proof.Machine

/-! ## Clocks -/

/-- `tick(n)`: a non-positive `n` changes nothing (R310). -/
def Clock.tick (clk : Clock) (n : Int) : Clock :=
  if n ≤ 0 then clk else ⟨clk.base + n.toNat, clk.fine + 4 * n.toNat⟩

/-- `addTime(other)` (R312). -/
def Clock.addTime (clk other : Clock) : Clock := ⟨clk.base + other.base, clk.fine + other.fine⟩

/-- `reset()` (R311). -/
def Clock.cleared (_clk : Clock) : Clock := .zero

/-- The CPU Clock is ticked by the cost of the executed instruction (40_execution.md R164). -/
def tickCpu (n : Int) (s : State) : State := { s with cpuClock := s.cpuClock.tick n }

/-! ## The scanline renderer -/

/-- `pal[v]`, the shade code of a tile pixel (10_state.md R59). -/
def PpuRegs.palette (r : PpuRegs) (v : BitVec 2) : BitVec 2 :=
  match v.toNat with
  | 0 => r.pal0
  | 1 => r.pal1
  | 2 => r.pal2
  | _ => r.pal3

/-- `tileset_sel` from LCDC bit 4 (10_state.md R54). -/
def tilesetSel (p : Params) (r : PpuRegs) : Bool :=
  match p.tilesetPolarity with
  | .direct => r.tilesetBit
  | .console => !r.tilesetBit

/-- `TileIndex(i)` (R332). -/
def tileIndex (sel : Bool) (i : Byte) : Nat := if sel && decide (i.toNat < 128) then i.toNat + 256 else i.toNat

/-- `mapbase`, the Video Memory offset of the background tile map (R331). -/
def mapBase (r : PpuRegs) : Nat := if r.bgMapSel then 0x1C00 else 0x1800

/-- The tile selected at column `tcol` of the map row at `rowbase` (R331). -/
def tileAt (p : Params) (s : State) (rowbase tcol : Nat) : Nat :=
  tileIndex (tilesetSel p s.ppu) (Cells.get unlistedByte s.vram (rowbase + tcol))

/-- The gray level of the tile-cache pixel at (t, row, col) (R331, R333). -/
def grayAt (p : Params) (s : State) (t row col : Nat) : Byte :=
  p.grayLevels (s.ppu.palette (tilePixel s.tiles t row col))

/-- The loop of RenderScanline over the next `count` pixels: four bytes a pixel, R = G = B and A = 255 (R331). -/
def scanLoop (p : Params) (s : State) (rowbase row : Nat) (count col tcol t : Nat) : List Byte :=
  match count with
  | 0 => []
  | count + 1 =>
    let g := grayAt p s t row col
    [g, g, g, 255#8] ++
      (if col + 1 = 8 then
        scanLoop p s rowbase row count 0 ((tcol + 1) % 32) (tileAt p s rowbase ((tcol + 1) % 32))
      else scanLoop p s rowbase row count (col + 1) tcol t)

/-- The bytes of the scanline at LY (R331). -/
def scanlineBytes (p : Params) (s : State) : List Byte :=
  let y := (s.ppu.ly + s.ppu.scy).toNat
  let rowbase := mapBase s.ppu + y / 8 * 32
  let tcol := s.ppu.scx.toNat / 8 % 32
  scanLoop p s rowbase (y % 8) screenW (s.ppu.scx.toNat % 8) tcol (tileAt p s rowbase tcol)

/-- `RenderScanline()`: nothing if the display is disabled, else one row of the pixel buffer (R330, R331). -/
def renderScanline (p : Params) (s : State) : State :=
  if s.ppu.displayEnable then
    { s with
      pixels := Cells.setBlock unlistedByte s.pixels (s.ppu.ly.toNat * screenW * 4) (scanlineBytes p s) }
  else s

/-! ## The timing state machine -/

/-- `FlushFrame()`: the host is handed a copy of the pixel buffer, which is not cleared (R325). -/
def flushFrame (s : State) : State := { s with frames := s.frames ++ [s.pixels] }

/-- Set the current scanline (R324, R326). -/
def State.setLy (s : State) (ly : Byte) : State := { s with ppu := { s.ppu with ly := ly } }

/-- Leaving OAM_READ (R322). -/
def leaveOamRead (s : State) : State := { s with mode := .vramRead }

/-- Leaving VRAM_READ (R323). -/
def leaveVramRead (p : Params) (s : State) : State := { renderScanline p s with mode := .horizontalBlank }

/-- Leaving HORIZONTAL_BLANK (R324). -/
def leaveHorizontalBlank (s : State) : State :=
  let s := s.setLy (s.ppu.ly + 1#8)
  if s.ppu.ly = 144#8 then flushFrame { s with mode := .verticalBlank } else { s with mode := .oamRead }

/-- Leaving VERTICAL_BLANK, once a line (R326). -/
def leaveVerticalBlank (s : State) : State :=
  if s.ppu.ly = 153#8 then { s.setLy 0#8 with mode := .oamRead } else s.setLy (s.ppu.ly + 1#8)

/-- `Transition(mode)` (R321). -/
def transition (p : Params) (s : State) : State :=
  match s.mode with
  | .oamRead => leaveOamRead s
  | .vramRead => leaveVramRead p s
  | .horizontalBlank => leaveHorizontalBlank s
  | .verticalBlank => leaveVerticalBlank s

/-- `ppu.step(n)`: at most one transition, the cycles above the threshold dropped (R321). -/
def ppuStep (p : Params) (n : Int) (s : State) : State :=
  let s := { s with ppuClock := s.ppuClock.tick n }
  if s.ppuClock.base < threshold s.mode then s
  else transition p { s with ppuClock := s.ppuClock.cleared }

end Sys2Proof.Machine
end

