-- ==== Sys2Proof/Machine/Fetch.lean ====
section
/-! DEFINITION. The engine around a handler: fetching and dispatching an instruction, its cost, the clocking after
it (40_execution.md R161 to R167), and placing code where the next fetch reads it. -/

namespace Sys2Proof.Machine

/-- What the fetches of one step find: an instruction with all its operand bytes, or an opcode byte without
handler; each with the state the fetches leave (R161, R162). -/
inductive Fetched where
  | instr (i : Instr) (s : State)
  | undefinedOpcode (sp : Space) (op : Byte) (s : State)

/-- Fetch the operand bytes of a form, in address order. They are fetched before any data access, so fetching them
ahead of the handler is the handler's own order (20_memory.md R121; log 8). -/
def fetchOperands (form : Form) (s : State) : Instr × State :=
  match form with
  | .op i => (i, s)
  | .d8 k =>
    let n := fetch s
    (k n.1, n.2)
  | .d16 k =>
    let nn := fetch16 s
    (k nn.1, nn.2)

/-- Dispatch on an opcode byte of a space (R161, R162). -/
def dispatch (impl : ImplSet) (sp : Space) (op : Byte) (s : State) : Fetched :=
  match lookupIn impl sp op with
  | none => .undefinedOpcode sp op s
  | some form =>
    let i := fetchOperands form s
    .instr i.1 i.2

/-- Fetch one instruction (R161, R167). -/
def fetchInstr (impl : ImplSet) (s : State) : Fetched :=
  let op := fetch s
  if op.1 = escapeByte then
    let op2 := fetch op.2
    dispatch impl .extended op2.1 op2.2
  else dispatch impl .primary op.1 op.2

/-- Whether the instruction is a conditional relative jump that is taken; the cost of any other instruction does
not depend on it (R241, R242, 00_scope.md R14). -/
def branchTaken (i : Instr) (s : State) : Bool :=
  match i with
  | .jrNz _ => !s.zFlag
  | .jrZ _ => s.zFlag
  | _ => false

/-- The cost the handler of `i` reports when it runs in `s` (R163). -/
def handlerCost (p : Params) (i : Instr) (s : State) : Nat := p.cycles i (branchTaken i s)

/-- After the handler: the CPU Clock is ticked by the cost, then the PPU is stepped by it (R164, R165). -/
def afterHandler (p : Params) (cost : Nat) (s : State) : State := ppuStep p cost (tickCpu cost s)

/-! ## Placing code -/

/-- Whether an instruction byte can be stored at an address: it is routed to a ROM or RAM region. -/
def holdsCode (booting : Bool) (a : Word) : Bool :=
  match route booting a with
  | .bootRom => true
  | .cartRom => true
  | .videoMemory => true
  | .workRam => true
  | .zeroPage => true
  | .ppuRegs => false
  | .stub => false

/-- Store a byte in the region an address is routed to, ROM included: what loading an image would have put there. -/
def placeByte (s : State) (a : Word) (v : Byte) : State :=
  match route s.bootFlag a with
  | .bootRom => { s with bootRom := bootRegion.writeByte s.bootRom a.toNat v }
  | .cartRom => { s with cartRom := cartRegion.writeByte s.cartRom a.toNat v }
  | .videoMemory => videoWrite s a.toNat v
  | .workRam => { s with wram := workRegion.writeByte s.wram a.toNat v }
  | .zeroPage => { s with zram := zeroPageRegion.writeByte s.zram a.toNat v }
  | .ppuRegs => s
  | .stub => s

/-- Store bytes from an address up. -/
def placeBytes (s : State) (a : Word) : List Byte → State
  | [] => s
  | v :: vs => placeBytes (placeByte s a v) (a + 1#16) vs

/-- Make the next step run the given three bytes: the CPU is not stopped, PC is moved to working RAM where it stands
at addresses that hold no code, and the bytes are stored at PC (log 9). -/
def placeCode (s : State) (bytes : List Byte) : State :=
  let s := { s with stopped := false, error := none }
  let s :=
    if holdsCode s.bootFlag s.pc && holdsCode s.bootFlag (s.pc + 1#16) && holdsCode s.bootFlag (s.pc + 2#16) then s
    else { s with pc := 0xC000#16 }
  placeBytes s s.pc bytes

end Sys2Proof.Machine
end

