-- ==== Sys2Proof/Machine/Step.lean ====
section
/-! DEFINITION. The whole system step (40_execution.md R167) and the placing of a table word where the next step
fetches it. -/

namespace Sys2Proof.Machine

/-- `Step()` under any parameters: nothing if the CPU is stopped (R166); an opcode without handler raises the decode
error and ends the step (R162, R301); else the handler runs, then the CPU Clock and the PPU advance by its cost
(R163 to R165). -/
def stepWith (p : Params) (s : State) : Host.Outcome State Fault Refusal :=
  if s.stopped then .next s
  else
    match fetchInstr p.implSet s with
    | .undefinedOpcode sp op s1 => .next (raiseDecodeError sp op s1)
    | .instr i s1 =>
      match exec i s1 with
      | .next s2 => .next (afterHandler p (handlerCost p i s1) s2)
      | .fault r => .fault r
      | .refused r => .refused r

/-- `Step()` under the default parameters (R167). -/
def step (s : State) : Host.Outcome State Fault Refusal := stepWith defaultParams s

/-- `s` with the instruction of a table word stored where the next step fetches it (log 9). -/
def State.withFetchWord (s : State) (nbits w : Nat) : State := placeCode s (tableBytes nbits (w % 2 ^ nbits))

end Sys2Proof.Machine
end

