-- ==== Sys2Proof/Machine/HostInterface.lean ====
section
/-! DEFINITION. The host's transactions (70_reset_and_hazards.md R375, R376). `Step` is Machine/Step.lean's step; frame
output happens inside the PPU step that enters VERTICAL_BLANK and is recorded in `frames` (60_exceptions.md R325). -/

namespace Sys2Proof.Machine

/-- `LoadImages(BOOT_ROM, CART_ROM)`: sets the original data of the two ROM regions; no region changes until the next
reset (R375, R376). -/
def loadImages (boot cart : List Byte) (s : State) : State := { s with bootImage := boot, cartImage := cart }

/-- `Reset()`: everything as in R68, the ROM regions reloaded from the images (R360; 20_memory.md R81). -/
def hostReset (s : State) : State :=
  { State.reset with
    bootRom := bootRegion.restore s.bootImage
    cartRom := cartRegion.restore s.cartImage
    bootImage := s.bootImage
    cartImage := s.cartImage }

/-- The loop of RunFrame is over: the CPU has stopped or its Clock has reached the target (40_execution.md R170). -/
def frameOver (target : Nat) (s : State) : Bool := s.stopped || decide (target ≤ s.cpuClock.base)

/-- `while not stopped and cpu_clock.base < target: Step()` (40_execution.md R170), followed for `limit` steps: what the loop
answers, or none where it is not over after them. -/
def runTo (p : Params) (target limit : Nat) (s : State) : Option Result :=
  if frameOver target s then some (.next s)
  else
    match limit with
    | 0 => none
    | limit + 1 =>
      match stepWith p s with
      | .next s => runTo p target limit s
      | .fault r => some (.fault r)
      | .refused r => some (.refused r)

/-- `RunFrame()`, followed for `limit` steps (40_execution.md R170). Where every cost is positive it is over within
`frameBudget` steps; under a table with a cost of 0 it may take more, or never end (log 10). -/
def runFrame (p : Params) (limit : Nat) (s : State) : Option Result :=
  runTo p (s.cpuClock.base + p.frameBudget) limit s

/-- The transaction `RunFrame()` answers `r` (40_execution.md R170; R375); nothing, where its loop never ends. -/
def FrameRun (p : Params) (s : State) (r : Result) : Prop := ∃ limit : Nat, runFrame p limit s = some r

/-- `PpuStep(n)`: one PPU step alone, allowed after the CPU has stopped (40_execution.md R172; R375). -/
def hostPpuStep (p : Params) (n : Int) (s : State) : State := ppuStep p n s

/-- A frame, or the pixel buffer, as the flat RGBA byte sequence (10_state.md R66). -/
def flatBytes (pixels : Memory) : List Byte := (List.range pixelBufferSize).map (Cells.get unlistedByte pixels)

/-- `ReadPixels()` (R375; 60_exceptions.md R335). -/
def readPixels (s : State) : List Byte := flatBytes s.pixels

/-- What `Status()` answers (R375). -/
structure Status where
  stopped : Bool
  error : Option DecodeError
  pc : Word
deriving DecidableEq, Repr

/-- `Status()` (R375). -/
def readStatus (s : State) : Status := ⟨s.stopped, s.error, s.pc⟩

/-- The two Clocks a host can name (R375). -/
inductive ClockName where
  | cpu | ppu
deriving DecidableEq, Repr

/-- `AddTime(clock, other)` (R375; 60_exceptions.md R312). -/
def hostAddTime (which : ClockName) (other : Clock) (s : State) : State :=
  match which with
  | .cpu => { s with cpuClock := s.cpuClock.addTime other }
  | .ppu => { s with ppuClock := s.ppuClock.addTime other }

end Sys2Proof.Machine
end

