-- ==== Sys2Proof/WellFormed.lean ====
section
/-! DEFINITION. The well-formedness check of an instruction. Its operands cannot be ill-formed (a byte is a byte,
a word a word, R143), so the one check is that its opcode is implemented (00_scope.md R4, R13). -/

namespace Sys2Proof

/-- The opcode of the instruction is in the implemented set `IMPL_SET` (R4, R13). -/
def Instr.wellFormed (impl : ImplSet) (i : Instr) : Bool := impl i.opcode.1 i.opcode.2

end Sys2Proof
end

