-- ==== Sys2Proof/Safety.lean ====
section
/-! DEFINITION. What claims are stated in: the byte an address names, the frames of an instruction, the bytes at PC, and
the invariants every step keeps. -/

namespace Sys2Proof.Machine

/-! ## Bytes and addresses -/

/-- The index an address names in its target: masked in a region (20_memory.md R80), the address itself elsewhere. -/
def targetIndex (t : Target) (a : Word) : Nat :=
  match t with
  | .bootRom => bootRegion.index a.toNat
  | .cartRom => cartRegion.index a.toNat
  | .videoMemory => videoRegion.index a.toNat
  | .workRam => workRegion.index a.toNat
  | .zeroPage => zeroPageRegion.index a.toNat
  | .ppuRegs => a.toNat
  | .stub => a.toNat

/-- The byte an address names: two addresses name one byte when target and index agree (an echo address and its
working-RAM address do, R99). -/
def cellOf (booting : Bool) (a : Word) : Target × Nat := (route booting a, targetIndex (route booting a) a)

/-- The address reaches RAM: Video Memory, working RAM or its echo, or zero-page RAM (46_stack.md R252). -/
def isRam (a : Word) : Bool :=
  decide (0x8000 ≤ a.toNat ∧ a.toNat < 0xA000) || decide (0xC000 ≤ a.toNat ∧ a.toNat < 0xFE00) ||
    decide (0xFF80 ≤ a.toNat ∧ a.toNat ≤ 0xFFFE)

/-- The bytes at PC, as many as the longest instruction has. -/
def codeBytes (s : State) : List Byte := [peek s s.pc, peek s (s.pc + 1#16), peek s (s.pc + 2#16)]

/-- Whether one of the `n` bytes from PC up stands at 0x0100, whose read clears the boot flag (R93). -/
def fetchesBootEnd (n : Nat) (s : State) : Bool :=
  (List.range n).any fun k => s.pc + BitVec.ofNat 16 k == 0x0100#16

/-- `s` after fetching `n` bytes: PC past them, the boot flag clear if 0x0100 was among them. -/
def fetched (n : Nat) (s : State) : State :=
  { s with pc := s.pc + BitVec.ofNat 16 n, bootFlag := s.bootFlag && !fetchesBootEnd n s }

/-- `n` runs of the handler of `i` in a row, without the fetches and the clocking around them. -/
def repeatExec (i : Instr) : Nat → State → Result
  | 0, s => .next s
  | n + 1, s =>
    match exec i s with
    | .next t => repeatExec i n t
    | .fault r => .fault r
    | .refused r => .refused r

/-- `n` steps of the system in a row. -/
def repeatStep (p : Params) : Nat → State → Result
  | 0, s => .next s
  | n + 1, s =>
    match stepWith p s with
    | .next t => repeatStep p n t
    | .fault r => .fault r
    | .refused r => .refused r

/-! ## The undefined opcode bytes and the lengths (30_encoding.md R147, R149) -/

/-- The 106 undefined primary bytes, as R147 lists them. -/
def undefinedPrimary : List Byte :=
  [0x00#8, 0x07#8, 0x08#8, 0x09#8, 0x0B#8, 0x0F#8, 0x10#8, 0x19#8, 0x1B#8, 0x1F#8, 0x27#8, 0x29#8, 0x2B#8, 0x2F#8, 0x30#8, 0x34#8] ++
  [0x35#8, 0x37#8, 0x38#8, 0x39#8, 0x3F#8, 0x76#8, 0x88#8, 0x89#8, 0x8A#8, 0x8B#8, 0x8C#8, 0x8D#8, 0x8E#8, 0x8F#8, 0x98#8, 0x99#8] ++
  [0x9A#8, 0x9B#8, 0x9C#8, 0x9D#8, 0x9E#8, 0x9F#8, 0xA0#8, 0xA1#8, 0xA2#8, 0xA3#8, 0xA4#8, 0xA5#8, 0xA6#8, 0xA7#8, 0xA8#8, 0xA9#8] ++
  [0xAA#8, 0xAB#8, 0xAC#8, 0xAD#8, 0xAE#8, 0xB0#8, 0xB1#8, 0xB2#8, 0xB3#8, 0xB4#8, 0xB5#8, 0xB6#8, 0xB7#8, 0xC0#8, 0xC2#8, 0xC3#8] ++
  [0xC4#8, 0xC7#8, 0xC8#8, 0xCA#8, 0xCC#8, 0xCE#8, 0xCF#8, 0xD0#8, 0xD2#8, 0xD3#8, 0xD4#8, 0xD7#8, 0xD8#8, 0xD9#8, 0xDA#8, 0xDB#8] ++
  [0xDC#8, 0xDD#8, 0xDE#8, 0xDF#8, 0xE3#8, 0xE4#8, 0xE6#8, 0xE7#8, 0xE8#8, 0xE9#8, 0xEB#8, 0xEC#8, 0xED#8, 0xEE#8, 0xEF#8, 0xF1#8] ++
  [0xF3#8, 0xF4#8, 0xF5#8, 0xF6#8, 0xF7#8, 0xF8#8, 0xF9#8, 0xFB#8, 0xFC#8, 0xFD#8]

/-- The 185 undefined extended bytes, as R147 lists them. -/
def undefinedExtended : List Byte :=
  [0x00#8, 0x01#8, 0x02#8, 0x03#8, 0x04#8, 0x05#8, 0x06#8, 0x07#8, 0x08#8, 0x09#8, 0x0A#8, 0x0B#8, 0x0C#8, 0x0D#8, 0x0E#8, 0x0F#8] ++
  [0x16#8, 0x18#8, 0x19#8, 0x1A#8, 0x1B#8, 0x1C#8, 0x1D#8, 0x1E#8, 0x1F#8, 0x20#8, 0x21#8, 0x22#8, 0x23#8, 0x24#8, 0x25#8, 0x26#8] ++
  [0x27#8, 0x28#8, 0x29#8, 0x2A#8, 0x2B#8, 0x2C#8, 0x2D#8, 0x2E#8, 0x2F#8, 0x30#8, 0x31#8, 0x32#8, 0x33#8, 0x34#8, 0x35#8, 0x36#8] ++
  [0x37#8, 0x38#8, 0x39#8, 0x3A#8, 0x3B#8, 0x3C#8, 0x3D#8, 0x3E#8, 0x3F#8, 0x80#8, 0x81#8, 0x82#8, 0x83#8, 0x84#8, 0x85#8, 0x86#8] ++
  [0x87#8, 0x88#8, 0x89#8, 0x8A#8, 0x8B#8, 0x8C#8, 0x8D#8, 0x8E#8, 0x8F#8, 0x90#8, 0x91#8, 0x92#8, 0x93#8, 0x94#8, 0x95#8, 0x96#8] ++
  [0x97#8, 0x98#8, 0x99#8, 0x9A#8, 0x9B#8, 0x9C#8, 0x9D#8, 0x9E#8, 0x9F#8, 0xA0#8, 0xA1#8, 0xA2#8, 0xA3#8, 0xA4#8, 0xA5#8, 0xA6#8] ++
  [0xA7#8, 0xA8#8, 0xA9#8, 0xAA#8, 0xAB#8, 0xAC#8, 0xAD#8, 0xAE#8, 0xAF#8, 0xB0#8, 0xB1#8, 0xB2#8, 0xB3#8, 0xB4#8, 0xB5#8, 0xB6#8] ++
  [0xB7#8, 0xB8#8, 0xB9#8, 0xBA#8, 0xBB#8, 0xBC#8, 0xBD#8, 0xBE#8, 0xBF#8, 0xC0#8, 0xC1#8, 0xC2#8, 0xC3#8, 0xC4#8, 0xC5#8, 0xC6#8] ++
  [0xC7#8, 0xC8#8, 0xC9#8, 0xCA#8, 0xCB#8, 0xCC#8, 0xCD#8, 0xCE#8, 0xCF#8, 0xD0#8, 0xD1#8, 0xD2#8, 0xD3#8, 0xD4#8, 0xD5#8, 0xD6#8] ++
  [0xD7#8, 0xD8#8, 0xD9#8, 0xDA#8, 0xDB#8, 0xDC#8, 0xDD#8, 0xDE#8, 0xDF#8, 0xE0#8, 0xE1#8, 0xE2#8, 0xE3#8, 0xE4#8, 0xE5#8, 0xE6#8] ++
  [0xE7#8, 0xE8#8, 0xE9#8, 0xEA#8, 0xEB#8, 0xEC#8, 0xED#8, 0xEE#8, 0xEF#8, 0xF0#8, 0xF1#8, 0xF2#8, 0xF3#8, 0xF4#8, 0xF5#8, 0xF6#8] ++
  [0xF7#8, 0xF8#8, 0xF9#8, 0xFA#8, 0xFB#8, 0xFC#8, 0xFD#8, 0xFE#8, 0xFF#8]

/-- The length the first byte decides (R149). -/
def lengthByFirstByte (op : Byte) : Nat :=
  if op = 0xCB#8 then 2
  else if op ∈ [0x06#8, 0x0E#8, 0x16#8, 0x1E#8, 0x26#8, 0x2E#8, 0x36#8, 0x3E#8] then 2
  else if op ∈ [0xC6#8, 0xD6#8, 0xFE#8, 0x18#8, 0x20#8, 0x28#8, 0xE0#8, 0xF0#8] then 2
  else if op ∈ [0x01#8, 0x11#8, 0x21#8, 0x31#8, 0xCD#8, 0xEA#8, 0xFA#8] then 3
  else 1

/-! ## Frames: `t` differs from `s` at most in the named parts -/

/-- Every byte reads in `t` as it reads in `s`. -/
def MemoryKept (s t : State) : Prop := ∀ x : Word, peek t x = peek s x

/-- Every register but `r` keeps its value. -/
def OtherRegsKept (r : Reg8) (s t : State) : Prop := ∀ q : Reg8, q ≠ r → t.reg8 q = s.reg8 q

/-- Only the data registers A to L: F, PC, SP, memory and all else keep their values. -/
def OnlyRegs (s t : State) : Prop :=
  t = { s with a := t.a, b := t.b, c := t.c, d := t.d, e := t.e, h := t.h, l := t.l } ∧ MemoryKept s t

/-- Only the data registers and F: PC, SP, memory and all else keep their values. -/
def OnlyRegsAndFlags (s t : State) : Prop :=
  t = { s with a := t.a, b := t.b, c := t.c, d := t.d, e := t.e, h := t.h, l := t.l, f := t.f } ∧ MemoryKept s t

/-- What one memory read at `addr` leaves, the registers apart: the boot flag, which a read of 0x0100 clears (R93), and
so the bytes below 0x0100 it uncovers; every byte at or above 0x0100, and every byte at all unless the flag was
cleared, reads as before; all else but A to L and F keeps its value. -/
def AfterOneRead (addr : Word) (s t : State) : Prop :=
  t.bootFlag = (s.bootFlag && !(addr == 0x0100#16)) ∧
  (∀ x : Word, (t.bootFlag = s.bootFlag ∨ 0x0100 ≤ x.toNat) → peek t x = peek s x) ∧
  t = { s with
    a := t.a, b := t.b, c := t.c, d := t.d, e := t.e, h := t.h, l := t.l, f := t.f, bootFlag := t.bootFlag }

/-- The same for two reads, at `lo` and at `hi`. -/
def AfterTwoReads (lo hi : Word) (s t : State) : Prop :=
  t.bootFlag = (s.bootFlag && !(lo == 0x0100#16 || hi == 0x0100#16)) ∧
  (∀ x : Word, (t.bootFlag = s.bootFlag ∨ 0x0100 ≤ x.toNat) → peek t x = peek s x) ∧
  t = { s with
    a := t.a, b := t.b, c := t.c, d := t.d, e := t.e, h := t.h, l := t.l, f := t.f, bootFlag := t.bootFlag }

/-- The address is one of the PPU Registers (R91). -/
def isPpuReg (a : Word) : Bool := decide (0xFF40 ≤ a.toNat ∧ a.toNat ≤ 0xFF4B)

/-- The bytes after a byte store at `addr`: every address that names another byte reads as before, RAM reads the stored
byte back, and a store to ROM or to a stub changes no byte at all (R90, R94, R102). -/
def StoresOneByte (addr : Word) (v : Byte) (s t : State) : Prop :=
  (∀ x : Word, cellOf s.bootFlag x ≠ cellOf s.bootFlag addr → peek t x = peek s x) ∧
  (isRam addr = true → ∀ x : Word, cellOf s.bootFlag x = cellOf s.bootFlag addr → peek t x = v) ∧
  (isRam addr = false → isPpuReg addr = false → ∀ x : Word, peek t x = peek s x)

/-- The bytes after a word store at `addr`: the low byte at `addr`, the high byte at the next address, each where that
address is RAM; every address that names neither byte, and each of the two that is ROM or a stub, reads as before. -/
def StoresOneWord (addr : Word) (w : Word) (s t : State) : Prop :=
  (∀ x : Word, cellOf s.bootFlag x ≠ cellOf s.bootFlag addr →
    cellOf s.bootFlag x ≠ cellOf s.bootFlag (addr + 1#16) → peek t x = peek s x) ∧
  (isRam addr = true → ∀ x : Word, cellOf s.bootFlag x = cellOf s.bootFlag addr → peek t x = loByte w) ∧
  (isRam (addr + 1#16) = true → ∀ x : Word,
    cellOf s.bootFlag x = cellOf s.bootFlag (addr + 1#16) → peek t x = hiByte w) ∧
  (isRam addr = false → isPpuReg addr = false → peek t addr = peek s addr) ∧
  (isRam (addr + 1#16) = false → isPpuReg (addr + 1#16) = false → peek t (addr + 1#16) = peek s (addr + 1#16))

/-- Only what a memory write can reach: RAM, the tile cache over Video Memory and the PPU Registers but LY. -/
def OnlyStores (s t : State) : Prop :=
  t = { s with vram := t.vram, tiles := t.tiles, wram := t.wram, zram := t.zram, ppu := t.ppu } ∧ t.ppu.ly = s.ppu.ly

/-- The four flag bits of `t`, and the low four bits of F zero (10_state.md R40, R42). -/
def FlagsAre (t : State) (z n h c : Bool) : Prop :=
  t.zFlag = z ∧ t.nFlag = n ∧ t.hFlag = h ∧ t.cFlag = c ∧ t.f &&& 0x0F#8 = 0x00#8

/-! ## Effects shared by the instructions of one rule -/

/-- A byte is stored at `addr` by one memory write, and nothing else happens. -/
def StoreEffect (addr : Word) (v : Byte) (s t : State) : Prop :=
  t = memWrite s addr v ∧ StoresOneByte addr v s t ∧ OnlyStores s t

/-- The byte at `addr` is loaded into `r` by one memory read, and nothing else happens; no flag is written. -/
def LoadEffect (r : Reg8) (addr : Word) (s t : State) : Prop :=
  t.reg8 r = peek s addr ∧ OtherRegsKept r s t ∧ t.f = s.f ∧ AfterOneRead addr s t

/-- `AddOp(v)` (43_alu.md R205), memory and all else apart. -/
def AddsToA (v : Byte) (s t : State) : Prop :=
  t.a = s.a + v ∧ OtherRegsKept .a s t ∧
  FlagsAre t (t.a == 0x00#8) false (((t.a ^^^ v ^^^ s.a) &&& 0x10#8) != 0x00#8) (decide (s.a.toNat + v.toNat > 0xFF))

/-- The flags of `SubOp(v, store)` (43_alu.md R206). -/
def SubtractFlags (v : Byte) (s t : State) : Prop :=
  FlagsAre t (s.a - v == 0x00#8) true ((((s.a - v) ^^^ v ^^^ s.a) &&& 0x10#8) != 0x00#8) (decide (s.a.toNat < v.toNat))

/-- `SubOp(v, store = true)` (43_alu.md R206), memory and all else apart. -/
def SubtractsFromA (v : Byte) (s t : State) : Prop := t.a = s.a - v ∧ OtherRegsKept .a s t ∧ SubtractFlags v s t

/-- `SubOp(v, store = false)` (43_alu.md R206), memory and all else apart. -/
def ComparesWithA (v : Byte) (s t : State) : Prop := (∀ r : Reg8, t.reg8 r = s.reg8 r) ∧ SubtractFlags v s t

/-- `x[r] <- RotL(x[r])` (44_rotate_bit.md R229). -/
def RotatesLeft (r : Reg8) (s t : State) : Prop :=
  t.reg8 r = ((s.reg8 r <<< 1) ||| (if s.cFlag then 0x01#8 else 0x00#8)) ∧ OtherRegsKept r s t ∧
  FlagsAre t (t.reg8 r == 0x00#8) false false ((s.reg8 r >>> 7) &&& 0x01#8 == 0x01#8) ∧ OnlyRegsAndFlags s t

/-- The flags of BIT on bit `k` of `v` (44_rotate_bit.md R232), the registers kept. -/
def TestsBit (k : Nat) (v : Byte) (s t : State) : Prop :=
  FlagsAre t ((v >>> k) &&& 0x01#8 == 0x00#8) false true s.cFlag ∧ ∀ r : Reg8, t.reg8 r = s.reg8 r

/-! ## Invariants -/

/-- Bits 3..0 of F are zero (10_state.md R42). -/
def FlagsLowZero (s : State) : Prop := s.f &&& 0x0F#8 = 0x00#8

/-- The tile cache is the decoding of Video Memory (20_memory.md R87). -/
def TilesMatch (s : State) : Prop :=
  ∀ t y x : Nat, t < 512 → y < 8 → x < 8 →
    tilePixel s.tiles t y x =
      rowPixel (Cells.get unlistedByte s.vram (16 * t + 2 * y)) (Cells.get unlistedByte s.vram (16 * t + 2 * y + 1)) x

/-- The current scanline fits the PPU mode: 0..143 outside the vertical blank, 144..153 in it (10_state.md R50). -/
def LineMatchesMode (s : State) : Prop :=
  match s.mode with
  | .oamRead => s.ppu.ly.toNat < 144
  | .vramRead => s.ppu.ly.toNat < 144
  | .horizontalBlank => s.ppu.ly.toNat < 144
  | .verticalBlank => 144 ≤ s.ppu.ly.toNat ∧ s.ppu.ly.toNat ≤ 153

/-- Every store is in its canonical form and inside its size. -/
def StoresWf (s : State) : Prop :=
  Memory.wf bootRegion.size s.bootRom = true ∧ Memory.wf cartRegion.size s.cartRom = true ∧
  Memory.wf videoRegion.size s.vram = true ∧ Memory.wf workRegion.size s.wram = true ∧
  Memory.wf zeroPageRegion.size s.zram = true ∧ TileCache.wf s.tiles = true ∧
  Memory.wf pixelBufferSize s.pixels = true ∧ ∀ frame ∈ s.frames, Memory.wf pixelBufferSize frame = true

/-- The fine counter of a Clock is four times its base counter (60_exceptions.md R310). -/
def Clock.Correlated (clk : Clock) : Prop := clk.fine = 4 * clk.base

/-- The PPU Clock counts cycles in the current mode, so it is below the mode's threshold (60_exceptions.md R313, R321). -/
def PpuClockBelow (s : State) : Prop := s.ppuClock.base < threshold s.mode

/-- The stop flag is set exactly when an error is recorded (10_state.md R63). -/
def StopRecorded (s : State) : Prop := s.stopped = s.error.isSome

/-- Zero-page index 0x7F is never reached and stays 0x00 (20_memory.md R105). -/
def ZeroPageTopClear (s : State) : Prop := Cells.get unlistedByte s.zram 0x7F = 0x00#8

/-- All of them. -/
structure Invariant (s : State) : Prop where
  flags : FlagsLowZero s
  tiles : TilesMatch s
  line : LineMatchesMode s
  stores : StoresWf s
  cpuClock : s.cpuClock.Correlated
  ppuClock : s.ppuClock.Correlated
  ppuClockBelow : PpuClockBelow s
  stop : StopRecorded s
  zeroPageTop : ZeroPageTopClear s

end Sys2Proof.Machine
end

