-- ==== Sys2Proof/Certificates/Slice0/Obligations.lean ====
section
/-! DEFINITION. The statements about the model, for the provers. Each docstring names the rules it formalises; a clause that
rests on a decision of 92_eei_decisions.md, on a value the spec supplies from general knowledge, or on the model's own choice
says so. Every opcode byte in a statement has its value from decision D2 (log 11), which R3 and R142 make the spec's rule. -/

open Sys2Proof Sys2Proof.Machine

/-! ## Reset -/

/-- R34, R61 to R68, R360, R361: construction with no image loaded (log 2) is the same as reset, and reset leaves every piece
of state at its value, whatever it was: the ROM regions at the loaded images, zero-padded (sizes: decisions D4, D5). The values
of the flags of the engine, the PPU Registers, the PPU mode and the pixel buffer are decisions D15 and D27; that the images stay
loaded is log 17, and the empty frame record is log 3. -/
def Obligations.ResetValues : Prop :=
  State.reset = hostReset State.reset ∧
  ∀ s : State,
    ((hostReset s).a = 0x00#8 ∧ (hostReset s).b = 0x00#8 ∧ (hostReset s).c = 0x00#8 ∧ (hostReset s).d = 0x00#8 ∧
      (hostReset s).e = 0x00#8 ∧ (hostReset s).h = 0x00#8 ∧ (hostReset s).l = 0x00#8 ∧ (hostReset s).f = 0x00#8 ∧
      (hostReset s).pc = 0x0000#16 ∧ (hostReset s).sp = 0x0000#16) ∧
    ((hostReset s).cpuClock = ⟨0, 0⟩ ∧ (hostReset s).ppuClock = ⟨0, 0⟩ ∧ (hostReset s).mode = .oamRead) ∧
    ((hostReset s).stopped = false ∧ (hostReset s).error = none ∧ (hostReset s).bootFlag = true) ∧
    (∀ k : Nat, Cells.get unlistedByte (hostReset s).vram k = 0x00#8 ∧
      Cells.get unlistedByte (hostReset s).wram k = 0x00#8 ∧ Cells.get unlistedByte (hostReset s).zram k = 0x00#8 ∧
      Cells.get unlistedByte (hostReset s).pixels k = 0x00#8) ∧
    (∀ k : Nat, k < 0x100 → Cells.get unlistedByte (hostReset s).bootRom k = s.bootImage.getD k 0x00#8) ∧
    (∀ k : Nat, k < 0x8000 → Cells.get unlistedByte (hostReset s).cartRom k = s.cartImage.getD k 0x00#8) ∧
    (∀ t y x : Nat, tilePixel (hostReset s).tiles t y x = 0#2) ∧
    (∀ x : Word, isPpuReg x = true → peek (hostReset s) x = 0x00#8) ∧
    ((hostReset s).bootImage = s.bootImage ∧ (hostReset s).cartImage = s.cartImage ∧ (hostReset s).frames = [])

/-- R81, R89, R95, R96, R375, R376: LoadImages changes no byte; the reset after it fills the ROM regions from the images, with
0x00 past the end of a short image; with the boot flag clear the cartridge image is read from address 0 up. The sizes of the
ROM regions are decisions D4 and D5. -/
def Obligations.ResetLoadsImages : Prop :=
  ∀ (s : State) (boot cart : List Byte),
    MemoryKept s (loadImages boot cart s) ∧
    (∀ x : Word, peek (hostReset (loadImages boot cart s)) x =
      if x.toNat < 0x100 then boot.getD x.toNat 0x00#8
      else if x.toNat < 0x8000 then cart.getD x.toNat 0x00#8
      else 0x00#8) ∧
    (∀ x : Word, x.toNat < 0x8000 →
      peek { hostReset (loadImages boot cart s) with bootFlag := false } x = cart.getD x.toNat 0x00#8)

/-! ## Invariants -/

/-- The invariant holds right after reset: the low four bits of F are 0 (R42), the tile cache is the decoding of Video Memory
(R87), LY fits the PPU mode (R50, R57), every store keeps its canonical form and its size (log 4), both Clocks count four fine
cycles a base cycle (R310), the PPU Clock is below the threshold of the mode (R321), the stop flag is set exactly when there is
an error record (R63), and index 0x7F of zero-page RAM is 0x00 (R105). -/
def Obligations.InvariantAtReset : Prop := Invariant State.reset

/-- R42, R50, R63, R87, R105, R310, R321: from every state that meets the invariant, a step of the system under any
parameters gives a state that meets it (its clauses are listed at InvariantAtReset). The canonical form of the stores is the
model's (log 4). -/
def Obligations.InvariantKeptByStep : Prop :=
  ∀ (p : Params) (s t : State), Invariant s → stepWith p s = .next t → Invariant t

/-- The host's transactions keep the invariant (R375; the set of transactions is decision D32): Reset from any state,
LoadImages, PpuStep with any count, RunFrame, and AddTime on the CPU Clock with a Clock whose counters are correlated. AddTime on
the PPU Clock can raise it past the threshold of the mode: it keeps every other clause of the invariant, and the next PPU step
brings the whole invariant back. The form of AddTime is log 18. -/
def Obligations.InvariantKeptByHost : Prop :=
  (∀ s : State, Invariant (hostReset s)) ∧
  (∀ (s : State) (boot cart : List Byte), Invariant s → Invariant (loadImages boot cart s)) ∧
  (∀ (p : Params) (n : Int) (s : State), Invariant s → Invariant (hostPpuStep p n s)) ∧
  (∀ (p : Params) (s t : State), Invariant s → FrameRun p s (.next t) → Invariant t) ∧
  (∀ (s : State) (other : Clock), Invariant s → other.Correlated → Invariant (hostAddTime .cpu other s)) ∧
  (∀ (s t : State) (other : Clock), Invariant s → other.Correlated → t = hostAddTime .ppu other s →
    FlagsLowZero t ∧ TilesMatch t ∧ LineMatchesMode t ∧ StoresWf t ∧ t.cpuClock.Correlated ∧ t.ppuClock.Correlated ∧
    StopRecorded t ∧ ZeroPageTopClear t ∧ ∀ (p : Params) (n : Int), Invariant (hostPpuStep p n t))

/-- R87: the tile cache is the decoding of Video Memory at reset, and after every byte write, handler, system step, PPU step,
run of a frame and other host transaction that starts from a state where it is. -/
def Obligations.TileCacheInvariant : Prop :=
  TilesMatch State.reset ∧ (∀ s : State, TilesMatch (hostReset s)) ∧
  (∀ (s : State) (a : Word) (v : Byte), TilesMatch s → TilesMatch (memWrite s a v)) ∧
  (∀ (i : Instr) (s t : State), TilesMatch s → exec i s = .next t → TilesMatch t) ∧
  (∀ (p : Params) (s t : State), TilesMatch s → stepWith p s = .next t → TilesMatch t) ∧
  (∀ (p : Params) (n : Int) (s : State), TilesMatch s → TilesMatch (ppuStep p n s)) ∧
  (∀ (p : Params) (s t : State), TilesMatch s → FrameRun p s (.next t) → TilesMatch t) ∧
  (∀ (s : State) (boot cart : List Byte), TilesMatch s → TilesMatch (loadImages boot cart s)) ∧
  (∀ (which : ClockName) (s : State) (other : Clock), TilesMatch s → TilesMatch (hostAddTime which other s))

/-- R93 (decision D31), R94: no step changes a ROM region or an image, and no step sets the boot flag again; a byte write to
0x0000 to 0x7FFF changes nothing at all. -/
def Obligations.RomAndBootFlag : Prop :=
  (∀ (p : Params) (s t : State), stepWith p s = .next t →
    t.bootRom = s.bootRom ∧ t.cartRom = s.cartRom ∧ t.bootImage = s.bootImage ∧ t.cartImage = s.cartImage ∧
      (s.bootFlag = false → t.bootFlag = false)) ∧
  (∀ (s : State) (a : Word) (v : Byte), a.toNat < 0x8000 → memWrite s a v = s)

/-! ## Encoding -/

/-- Decoding the encoding of a well-formed instruction, whatever bytes follow and whatever opcodes are implemented, gives the
instruction back and leaves the bytes that follow (R140, R141, R143, R169; the byte values are decision D2). -/
def Obligations.DecodeEncode : Prop :=
  ∀ (impl : ImplSet) (i : Instr) (rest : List Byte), i.wellFormed impl = true →
    decode impl (encode i ++ rest) = .ok (i, rest)

/-- Where bytes decode, they are the encoding of the decoded instruction followed by what is left, and that instruction is
well-formed: no two byte sequences of one length mean the same and no implemented byte means two things. -/
def Obligations.EncodeDecode : Prop :=
  ∀ (impl : ImplSet) (bs : List Byte) (i : Instr) (rest : List Byte), decode impl bs = .ok (i, rest) →
    bs = encode i ++ rest ∧ i.wellFormed impl = true

/-- R145 to R149 (decision D1): the bytes without handler are the escape byte 0xCB of the primary space and the 106 and 185
bytes of R147, each refused by name; the first byte decides an instruction's length. -/
def Obligations.OpcodeMap : Prop :=
  undefinedPrimary.length = 106 ∧ undefinedExtended.length = 185 ∧
  (∀ op : Byte, lookup .primary op = none ↔ op = 0xCB#8 ∨ op ∈ undefinedPrimary) ∧
  (∀ op : Byte, lookup .extended op = none ↔ op ∈ undefinedExtended) ∧
  (∀ (impl : ImplSet) (op : Byte) (bs : List Byte), op ∈ undefinedPrimary →
    decode impl (op :: bs) = .error (.undefinedOpcode .primary op)) ∧
  (∀ (impl : ImplSet) (op : Byte) (bs : List Byte), op ∈ undefinedExtended →
    decode impl (0xCB#8 :: op :: bs) = .error (.undefinedOpcode .extended op)) ∧
  (∀ i : Instr, i.length = lengthByFirstByte ((encode i).headD 0x00#8))

/-- Words written out from the opcode maps of R145 and R146 and from the encodings of the instruction rules decode to the
instructions they stand for. -/
def Obligations.SpecWordsDecode : Prop :=
  decode implAll [0b00111110#8, 0x80#8] = .ok (.ldAImm 0x80#8, []) ∧
  decode implAll [0b00100001#8, 0xFF#8, 0x9F#8] = .ok (.ldHlImm 0x9FFF#16, []) ∧
  decode implAll [0b00100010#8] = .ok (.ldAtHlIncA, []) ∧
  decode implAll [0b01100111#8] = .ok (.ldHA, []) ∧
  decode implAll [0b00000101#8] = .ok (.decB, []) ∧
  decode implAll [0b10010000#8] = .ok (.subB, []) ∧
  decode implAll [0b11001011#8, 0b00010001#8] = .ok (.rlC, []) ∧
  decode implAll [0b11001011#8, 0b01111100#8] = .ok (.bit7H, []) ∧
  decode implAll [0b00100000#8, 0xFC#8] = .ok (.jrNz 0xFC#8, []) ∧
  decode implAll [0b11001101#8, 0x00#8, 0xC1#8] = .ok (.call 0xC100#16, []) ∧
  decode implAll [0b11010001#8] = .ok (.popDe, []) ∧
  decode implAll [0b11100000#8, 0x40#8] = .ok (.ldhAtImmA 0x40#8, []) ∧
  decode implAll [0b11111010#8, 0x00#8, 0xE0#8] = .ok (.ldAAtImm 0xE000#16, []) ∧
  decode implAll [0b01110110#8] = .error (.undefinedOpcode .primary 0x76#8) ∧
  decode implAll [0b11001011#8, 0b00010110#8] = .error (.undefinedOpcode .extended 0x16#8)

/-! ## The step -/

/-- R24, R161, R164, R165, R167: when the CPU is not stopped and the bytes at PC decode to `i`, a step runs the handler of `i`
with PC past its bytes (and the boot flag clear if one of them stands at 0x0100), then ticks the CPU Clock by the cost the
handler reports and steps the PPU by the same cost. The handler starts with its operand bytes fetched already, which rests on
R121 (decision D18) and log 8; `step` is this under the default parameters, which is log 5. -/
def Obligations.StepRunsDecodedInstruction : Prop :=
  step = stepWith defaultParams ∧
  ∀ (p : Params) (s : State) (i : Instr) (rest : List Byte), s.stopped = false →
    decode p.implSet (codeBytes s) = .ok (i, rest) →
    stepWith p s =
      match exec i (fetched i.length s) with
      | .next t =>
        .next (ppuStep p (handlerCost p i (fetched i.length s)) (tickCpu (handlerCost p i (fetched i.length s)) t))
      | .fault r => .fault r
      | .refused r => .refused r

/-- R162, R300, R301 (decision D14), R306: when the bytes at PC have no handler, a step stops the CPU and records the space
and the byte; PC is past the one byte, or the two of the extended space, and nothing else changes but what fetching them
does to the boot flag; no Clock moves and the PPU is not stepped. Every later step changes nothing. Decoding at PC can fail
in no other way. -/
def Obligations.DecodeErrorEffects : Prop :=
  (∀ (p : Params) (s : State) (op : Byte), s.stopped = false →
    decode p.implSet (codeBytes s) = .error (.undefinedOpcode .primary op) →
    op = peek s s.pc ∧
    stepWith p s = .next { fetched 1 s with stopped := true, error := some ⟨.primary, op⟩ } ∧
    (fetched 1 s).pc = s.pc + 1#16 ∧
    stepWith p { fetched 1 s with stopped := true, error := some ⟨.primary, op⟩ } =
      .next { fetched 1 s with stopped := true, error := some ⟨.primary, op⟩ }) ∧
  (∀ (p : Params) (s : State) (op : Byte), s.stopped = false →
    decode p.implSet (codeBytes s) = .error (.undefinedOpcode .extended op) →
    peek s s.pc = 0xCB#8 ∧ op = peek s (s.pc + 1#16) ∧
    stepWith p s = .next { fetched 2 s with stopped := true, error := some ⟨.extended, op⟩ } ∧
    (fetched 2 s).pc = s.pc + 2#16 ∧
    stepWith p { fetched 2 s with stopped := true, error := some ⟨.extended, op⟩ } =
      .next { fetched 2 s with stopped := true, error := some ⟨.extended, op⟩ }) ∧
  (∀ (p : Params) (s : State), decode p.implSet (codeBytes s) ≠ .error .truncated)

/-- R166: a step of a stopped CPU does nothing. -/
def Obligations.StoppedStep : Prop := ∀ (p : Params) (s : State), s.stopped = true → stepWith p s = .next s

/-- R168, R304, R307: every instruction in every state, and every step of every state, answers a next state. That the fatal
decode error is a next state, with the CPU stopped in it, is log 7. -/
def Obligations.EveryInstructionCompletes : Prop :=
  (∀ (i : Instr) (s : State), ∃ t : State, exec i s = .next t) ∧
  (∀ (p : Params) (s : State), ∃ t : State, stepWith p s = .next t)

/-- R174: a handler writes neither the Clocks nor the PPU's mode, pixel buffer, frames or current scanline nor the stop flag,
the error record, a ROM region or an image; and it reads none of the Clocks, the mode, the pixel buffer, the frames, the stop
flag, the error record, the images and the tile cache: changing those changes no other part of its result. -/
def Obligations.HandlerContext : Prop :=
  (∀ (i : Instr) (s t : State), exec i s = .next t →
    t.cpuClock = s.cpuClock ∧ t.ppuClock = s.ppuClock ∧ t.mode = s.mode ∧ t.pixels = s.pixels ∧ t.frames = s.frames ∧
      t.ppu.ly = s.ppu.ly ∧ t.stopped = s.stopped ∧ t.error = s.error ∧ t.bootRom = s.bootRom ∧
      t.cartRom = s.cartRom ∧ t.bootImage = s.bootImage ∧ t.cartImage = s.cartImage) ∧
  (∀ (i : Instr) (s t u : State), exec i s = .next t →
    ∃ tiles : TileCache,
      exec i { s with
        cpuClock := u.cpuClock, ppuClock := u.ppuClock, mode := u.mode, pixels := u.pixels, frames := u.frames
        stopped := u.stopped, error := u.error, bootImage := u.bootImage, cartImage := u.cartImage, tiles := u.tiles } =
      .next { t with
        cpuClock := u.cpuClock, ppuClock := u.ppuClock, mode := u.mode, pixels := u.pixels, frames := u.frames
        stopped := u.stopped, error := u.error, bootImage := u.bootImage, cartImage := u.cartImage, tiles := tiles })

/-- R163 (decision D30), R164, R310, R313, R382: an executed instruction advances the CPU Clock by its cost, four fine cycles a
base cycle; a conditional relative jump is charged as taken exactly when it is taken; a step that does nothing or raises a
decode error moves neither Clock (of the decode error, decision D14). Of the host's transactions that are no steps, Reset clears
the CPU Clock, AddTime on it adds the other Clock's counters (R312; its form is log 18), and none of the rest moves it. -/
def Obligations.CpuClockAdvance : Prop :=
  (∀ (p : Params) (s t : State) (i : Instr) (rest : List Byte), s.stopped = false →
    decode p.implSet (codeBytes s) = .ok (i, rest) → stepWith p s = .next t →
    t.cpuClock.base = s.cpuClock.base + handlerCost p i s ∧ t.cpuClock.fine = s.cpuClock.fine + 4 * handlerCost p i s) ∧
  (∀ (p : Params) (s t : State), (s.stopped = true ∨ t.stopped = true) → stepWith p s = .next t →
    t.cpuClock = s.cpuClock ∧ t.ppuClock = s.ppuClock) ∧
  (∀ (p : Params) (e : Byte) (s : State),
    handlerCost p (.jrNz e) s = p.cycles (.jrNz e) (!s.zFlag) ∧ handlerCost p (.jrZ e) s = p.cycles (.jrZ e) s.zFlag) ∧
  (∀ (s : State) (boot cart : List Byte) (p : Params) (n : Int) (other : Clock),
    (hostReset s).cpuClock = ⟨0, 0⟩ ∧ (loadImages boot cart s).cpuClock = s.cpuClock ∧
    (hostPpuStep p n s).cpuClock = s.cpuClock ∧ (hostAddTime .ppu other s).cpuClock = s.cpuClock ∧
    (hostAddTime .cpu other s).cpuClock = ⟨s.cpuClock.base + other.base, s.cpuClock.fine + other.fine⟩)

/-- R380 (decision D3; the counts are the console's, from general knowledge): the default costs, row by row of the table. -/
def Obligations.DefaultCosts : Prop :=
  (∀ (r q : Reg8) (n : Byte) (b : Bool),
    defaultCycles (.ldRegImm r n) b = 2 ∧ defaultCycles (.ldRegAtHl r) b = 2 ∧ defaultCycles (.ldAtHlReg r) b = 2 ∧
    defaultCycles (.ldRegReg r q) b = 1 ∧ defaultCycles (.incReg r) b = 1 ∧ defaultCycles (.decReg r) b = 1 ∧
    defaultCycles (.addReg r) b = 1 ∧ defaultCycles (.subReg r) b = 1 ∧ defaultCycles (.cpReg r) b = 1 ∧
    defaultCycles (.rlReg r) b = 2) ∧
  (∀ (k : BitNo) (r : Reg8) (b : Bool), defaultCycles (.bitReg k r) b = 2 ∧ defaultCycles (.bitAtHl k) b = 3) ∧
  (∀ (r : Reg16) (nn : Word) (b : Bool), defaultCycles (.ldPairImm r nn) b = 3 ∧ defaultCycles (.incPair r) b = 2) ∧
  (∀ (q : Pair) (b : Bool), defaultCycles (.push q) b = 4 ∧ defaultCycles (.pop q) b = 3) ∧
  (∀ (n : Byte) (nn : Word) (b : Bool),
    defaultCycles (.ldAtHlImm n) b = 3 ∧ defaultCycles .ldAtBcA b = 2 ∧ defaultCycles .ldAtDeA b = 2 ∧
    defaultCycles .ldAAtBc b = 2 ∧ defaultCycles .ldAAtDe b = 2 ∧ defaultCycles .ldAtHlIncA b = 2 ∧
    defaultCycles .ldAAtHlInc b = 2 ∧ defaultCycles .ldAtHlDecA b = 2 ∧ defaultCycles .ldAAtHlDec b = 2 ∧
    defaultCycles .decSp b = 2 ∧ defaultCycles .addAtHl b = 2 ∧ defaultCycles .subAtHl b = 2 ∧
    defaultCycles .cpAtHl b = 2 ∧ defaultCycles (.addImm n) b = 2 ∧ defaultCycles (.subImm n) b = 2 ∧
    defaultCycles (.cpImm n) b = 2 ∧ defaultCycles .xorA b = 1 ∧ defaultCycles .rla b = 1 ∧
    defaultCycles (.jr n) b = 3 ∧ defaultCycles (.jrNz n) b = (if b then 3 else 2) ∧
    defaultCycles (.jrZ n) b = (if b then 3 else 2) ∧ defaultCycles (.call nn) b = 6 ∧ defaultCycles .rst38 b = 4 ∧
    defaultCycles .ret b = 4 ∧ defaultCycles (.ldhAtImmA n) b = 3 ∧ defaultCycles (.ldhAAtImm n) b = 3 ∧
    defaultCycles .ldAtCA b = 2 ∧ defaultCycles .ldAAtC b = 2 ∧ defaultCycles (.ldAtImmA nn) b = 4 ∧
    defaultCycles (.ldAAtImm nn) b = 4)

/-- Two machines that differ in the cost table (R381), the gray levels (R333), the polarity (R54, decision D9; R331) and the
frame budget (R170) alone step one state to states with the same registers, flags, memory, boot flag, stop flag and error record,
and the same PPU Registers but for LY. -/
def Obligations.CostIndependence : Prop :=
  ∀ (p q : Params) (s t u : State), p.implSet = q.implSet → stepWith p s = .next t → stepWith q s = .next u →
    (∀ r : Reg8, t.reg8 r = u.reg8 r) ∧ t.f = u.f ∧ t.pc = u.pc ∧ t.sp = u.sp ∧ t.bootFlag = u.bootFlag ∧
    t.stopped = u.stopped ∧ t.error = u.error ∧
    (∀ x : Word, x ≠ 0xFF44#16 → peek t x = peek u x) ∧
    t.tiles = u.tiles ∧ t.ppu = { u.ppu with ly := t.ppu.ly }

/-- R170 (decision D17), under every cost table: RunFrame followed for `limit` steps answers `t` exactly when some number of
steps up to `limit` leads to `t`, there the CPU has stopped or its Clock has reached the target, and at none of the states before
was it so; it answers nothing but a next state. An answer overruns the target by less than the cost of the last instruction.
Where every cost lies in 1 to `m` the loop is over within `frameBudget` steps, and the overrun is less than `m`. A stopped CPU
runs nothing. That the loop is followed for a number of steps is log 10. -/
def Obligations.RunFrameBound : Prop :=
  (∀ (p : Params) (limit : Nat) (s t : State),
    runFrame p limit s = some (.next t) ↔
      ∃ k : Nat, k ≤ limit ∧ repeatStep p k s = .next t ∧
        (t.stopped = true ∨ s.cpuClock.base + p.frameBudget ≤ t.cpuClock.base) ∧
        ∀ (j : Nat) (u : State), j < k → repeatStep p j s = .next u →
          u.stopped = false ∧ u.cpuClock.base < s.cpuClock.base + p.frameBudget) ∧
  (∀ (p : Params) (limit : Nat) (s : State) (r : Result), runFrame p limit s = some r → ∃ t : State, r = .next t) ∧
  (∀ (p : Params) (s t : State), FrameRun p s (.next t) →
    s.cpuClock.base ≤ t.cpuClock.base ∧
    (t.cpuClock.base ≤ s.cpuClock.base + p.frameBudget ∨
      ∃ (u : State) (i : Instr) (rest : List Byte), u.stopped = false ∧
        u.cpuClock.base < s.cpuClock.base + p.frameBudget ∧ decode p.implSet (codeBytes u) = .ok (i, rest) ∧
        stepWith p u = .next t ∧ t.cpuClock.base < s.cpuClock.base + p.frameBudget + handlerCost p i u)) ∧
  (∀ (p : Params) (m : Nat) (s : State), (∀ (i : Instr) (b : Bool), 1 ≤ p.cycles i b ∧ p.cycles i b ≤ m) →
    ∃ t : State, runFrame p p.frameBudget s = some (.next t) ∧
      (t.stopped = true ∨ s.cpuClock.base + p.frameBudget ≤ t.cpuClock.base) ∧
      s.cpuClock.base ≤ t.cpuClock.base ∧ t.cpuClock.base < s.cpuClock.base + p.frameBudget + m) ∧
  (∀ (p : Params) (limit : Nat) (s : State), s.stopped = true → runFrame p limit s = some (.next s))

/-! ## Loads -/

/-- LD r,n for r = B, C, D, E, H, L, A (R180): it completes in every state, r holds the immediate, nothing else changes. -/
def Obligations.LoadImmediate : Prop :=
  ∀ (r : Reg8) (n : Byte) (s : State),
    encode (.ldRegImm r n) = [fields 0b00#2 r.code 0b110#3, n] ∧
    ∃ t : State, exec (.ldRegImm r n) s = .next t ∧ t.reg8 r = n ∧ OtherRegsKept r s t ∧ OnlyRegs s t

/-- LD BC,nn, LD DE,nn, LD HL,nn, LD SP,nn (R182): it completes in every state, the 16-bit register holds the immediate (the
high byte in B, D or H), every other register and all else is kept. -/
def Obligations.LoadImmediate16 : Prop :=
  (∀ (r : Reg16) (nn : Word) (s : State),
    encode (.ldPairImm r nn) = [fields 0b00#2 (pairField r.code) 0b001#3, nn.setWidth 8, (nn >>> 8).setWidth 8] ∧
    ∃ t : State, exec (.ldPairImm r nn) s = .next t ∧ t.reg16 r = nn ∧ (∀ q : Reg16, q ≠ r → t.reg16 q = s.reg16 q) ∧
      t.a = s.a ∧ OnlyRegs { s with sp := t.sp } t) ∧
  (∀ (nn : Word) (s : State),
    exec (.ldBcImm nn) s = .next { s with b := (nn >>> 8).setWidth 8, c := nn.setWidth 8 } ∧
    exec (.ldDeImm nn) s = .next { s with d := (nn >>> 8).setWidth 8, e := nn.setWidth 8 } ∧
    exec (.ldHlImm nn) s = .next { s with h := (nn >>> 8).setWidth 8, l := nn.setWidth 8 } ∧
    exec (.ldSpImm nn) s = .next { s with sp := nn })

/-- LD d,s for the 49 pairs of registers (R193): it completes in every state, d holds the old s, no flag and nothing else
changes. -/
def Obligations.CopyRegister : Prop :=
  ∀ (dst src : Reg8) (s : State),
    encode (.ldRegReg dst src) = [fields 0b01#2 dst.code src.code] ∧
    ∃ t : State, exec (.ldRegReg dst src) s = .next t ∧ t.reg8 dst = s.reg8 src ∧ OtherRegsKept dst s t ∧ OnlyRegs s t

/-- LD r,(HL) for the seven registers (R191): it completes in every state, r holds the byte at the old HL, no flag is
written, and nothing else changes but the boot flag, which a read of 0x0100 clears. -/
def Obligations.LoadThroughHl : Prop :=
  ∀ (r : Reg8) (s : State),
    encode (.ldRegAtHl r) = [fields 0b01#2 r.code 0b110#3] ∧
    ∃ t : State, exec (.ldRegAtHl r) s = .next t ∧ LoadEffect r (s.pair .hl) s t

/-- LD (HL),r for the seven registers (R192), with 0x76 undefined, and LD (HL),n (R181, which decision D1 includes): it
completes in every state and writes one byte at HL. -/
def Obligations.StoreThroughHl : Prop :=
  (∀ (r : Reg8) (s : State),
    encode (.ldAtHlReg r) = [fields 0b01#2 0b110#3 r.code] ∧
    ∃ t : State, exec (.ldAtHlReg r) s = .next t ∧ StoreEffect (s.pair .hl) (s.reg8 r) s t) ∧
  lookup .primary 0x76#8 = none ∧
  (∀ (n : Byte) (s : State),
    encode (.ldAtHlImm n) = [0x36#8, n] ∧
    ∃ t : State, exec (.ldAtHlImm n) s = .next t ∧ StoreEffect (s.pair .hl) n s t)

/-- LD A,(BC), LD A,(DE), LD A,(HL+), LD A,(HL-) (R185, R186, R188, R190): each completes in every state and loads A from the
byte at the pointer; the last two then move HL by one, wrapping. -/
def Obligations.LoadAThroughPointer : Prop :=
  ∀ s : State,
    (encode .ldAAtBc = [0x0A#8] ∧ ∃ t : State, exec .ldAAtBc s = .next t ∧ LoadEffect .a (s.pair .bc) s t) ∧
    (encode .ldAAtDe = [0x1A#8] ∧ ∃ t : State, exec .ldAAtDe s = .next t ∧ LoadEffect .a (s.pair .de) s t) ∧
    (encode .ldAAtHlInc = [0x2A#8] ∧ ∃ t : State, exec .ldAAtHlInc s = .next t ∧ t.a = peek s (s.pair .hl) ∧
      t.pair .hl = s.pair .hl + 1#16 ∧ t.pair .bc = s.pair .bc ∧ t.pair .de = s.pair .de ∧ t.f = s.f ∧
      AfterOneRead (s.pair .hl) s t) ∧
    (encode .ldAAtHlDec = [0x3A#8] ∧ ∃ t : State, exec .ldAAtHlDec s = .next t ∧ t.a = peek s (s.pair .hl) ∧
      t.pair .hl = s.pair .hl - 1#16 ∧ t.pair .bc = s.pair .bc ∧ t.pair .de = s.pair .de ∧ t.f = s.f ∧
      AfterOneRead (s.pair .hl) s t)

/-- LD (BC),A, LD (DE),A, LD (HL+),A, LD (HL-),A (R183, R184, R187, R189): each completes in every state and writes A at the
pointer; the last two then move HL by one, wrapping, also when the write is lost. -/
def Obligations.StoreAThroughPointer : Prop :=
  ∀ s : State,
    (encode .ldAtBcA = [0x02#8] ∧ ∃ t : State, exec .ldAtBcA s = .next t ∧ StoreEffect (s.pair .bc) s.a s t) ∧
    (encode .ldAtDeA = [0x12#8] ∧ ∃ t : State, exec .ldAtDeA s = .next t ∧ StoreEffect (s.pair .de) s.a s t) ∧
    (encode .ldAtHlIncA = [0x22#8] ∧ ∃ t : State, exec .ldAtHlIncA s = .next t ∧ t.pair .hl = s.pair .hl + 1#16 ∧
      StoreEffect (s.pair .hl) s.a { s with h := t.h, l := t.l } t) ∧
    (encode .ldAtHlDecA = [0x32#8] ∧ ∃ t : State, exec .ldAtHlDecA s = .next t ∧ t.pair .hl = s.pair .hl - 1#16 ∧
      StoreEffect (s.pair .hl) s.a { s with h := t.h, l := t.l } t)

/-- LDH A,(n), LD A,(C), LD A,(nn) (R256, R258, R260): each completes in every state and loads A from 0xFF00 + n,
0xFF00 + C or nn. -/
def Obligations.HighPageAndAbsoluteLoads : Prop :=
  ∀ (n : Byte) (nn : Word) (s : State),
    (encode (.ldhAAtImm n) = [0xF0#8, n] ∧
      ∃ t : State, exec (.ldhAAtImm n) s = .next t ∧ LoadEffect .a (0xFF#8 ++ n) s t) ∧
    (encode .ldAAtC = [0xF2#8] ∧ ∃ t : State, exec .ldAAtC s = .next t ∧ LoadEffect .a (0xFF#8 ++ s.c) s t) ∧
    (encode (.ldAAtImm nn) = [0xFA#8, nn.setWidth 8, (nn >>> 8).setWidth 8] ∧
      ∃ t : State, exec (.ldAAtImm nn) s = .next t ∧ LoadEffect .a nn s t)

/-- LDH (n),A, LD (C),A, LD (nn),A (R255, R257, R259): each completes in every state and writes A at 0xFF00 + n, 0xFF00 + C or
nn. -/
def Obligations.HighPageAndAbsoluteStores : Prop :=
  ∀ (n : Byte) (nn : Word) (s : State),
    (encode (.ldhAtImmA n) = [0xE0#8, n] ∧
      ∃ t : State, exec (.ldhAtImmA n) s = .next t ∧ StoreEffect (0xFF#8 ++ n) s.a s t) ∧
    (encode .ldAtCA = [0xE2#8] ∧ ∃ t : State, exec .ldAtCA s = .next t ∧ StoreEffect (0xFF#8 ++ s.c) s.a s t) ∧
    (encode (.ldAtImmA nn) = [0xEA#8, nn.setWidth 8, (nn >>> 8).setWidth 8] ∧
      ∃ t : State, exec (.ldAtImmA nn) s = .next t ∧ StoreEffect nn s.a s t)

/-! ## Increment and decrement -/

/-- INC r for the seven registers (R200): it completes in every state, r goes up by one, wrapping, with Z from the result, N
clear, H by the XOR formula (that is, set exactly when the old low nibble is 0xF) and C kept; 0x34 is undefined. -/
def Obligations.IncrementRegister : Prop :=
  (∀ (r : Reg8) (s : State),
    encode (.incReg r) = [fields 0b00#2 r.code 0b100#3] ∧
    ∃ t : State, exec (.incReg r) s = .next t ∧ t.reg8 r = s.reg8 r + 1#8 ∧ OtherRegsKept r s t ∧
      FlagsAre t (t.reg8 r == 0x00#8) false (((t.reg8 r ^^^ 0x01#8 ^^^ s.reg8 r) &&& 0x10#8) != 0x00#8) s.cFlag ∧
      t.hFlag = (s.reg8 r &&& 0x0F#8 == 0x0F#8) ∧ OnlyRegsAndFlags s t) ∧
  lookup .primary 0x34#8 = none

/-- DEC r for the seven registers (R201): it completes in every state, r goes down by one, wrapping, with Z from the result, N
set, H by the XOR formula (that is, set exactly when the old low nibble is 0x0) and C kept; 0x35 is undefined. -/
def Obligations.DecrementRegister : Prop :=
  (∀ (r : Reg8) (s : State),
    encode (.decReg r) = [fields 0b00#2 r.code 0b101#3] ∧
    ∃ t : State, exec (.decReg r) s = .next t ∧ t.reg8 r = s.reg8 r - 1#8 ∧ OtherRegsKept r s t ∧
      FlagsAre t (t.reg8 r == 0x00#8) true (((t.reg8 r ^^^ 0x01#8 ^^^ s.reg8 r) &&& 0x10#8) != 0x00#8) s.cFlag ∧
      t.hFlag = (s.reg8 r &&& 0x0F#8 == 0x00#8) ∧ OnlyRegsAndFlags s t) ∧
  lookup .primary 0x35#8 = none

/-- INC BC, INC DE, INC HL, INC SP (R202) and DEC SP (R203, decisions D1 and D3): each completes in every state and moves the
16-bit register by one, wrapping, with no flag effect. -/
def Obligations.Increment16 : Prop :=
  (∀ (r : Reg16) (s : State),
    encode (.incPair r) = [fields 0b00#2 (pairField r.code) 0b011#3] ∧
    ∃ t : State, exec (.incPair r) s = .next t ∧ t.reg16 r = s.reg16 r + 1#16 ∧
      (∀ q : Reg16, q ≠ r → t.reg16 q = s.reg16 q) ∧ t.a = s.a ∧ OnlyRegs { s with sp := t.sp } t) ∧
  (∀ s : State, encode .decSp = [0x3B#8] ∧ exec .decSp s = .next { s with sp := s.sp - 1#16 })

/-! ## Arithmetic -/

/-- ADD A,r for the seven registers, ADD A,(HL), ADD A,n (R205, R210, R211; R212): each completes in every state with the sum
and the flags of AddOp. -/
def Obligations.AddToA : Prop :=
  (∀ (r : Reg8) (s : State),
    encode (.addReg r) = [fields 0b10#2 0b000#3 r.code] ∧
    ∃ t : State, exec (.addReg r) s = .next t ∧ AddsToA (s.reg8 r) s t ∧ OnlyRegsAndFlags s t) ∧
  (∀ s : State, encode .addAtHl = [0x86#8] ∧
    ∃ t : State, exec .addAtHl s = .next t ∧ AddsToA (peek s (s.pair .hl)) s t ∧ AfterOneRead (s.pair .hl) s t) ∧
  (∀ (n : Byte) (s : State), encode (.addImm n) = [0xC6#8, n] ∧
    ∃ t : State, exec (.addImm n) s = .next t ∧ AddsToA n s t ∧ OnlyRegsAndFlags s t)

/-- SUB r for the seven registers, SUB (HL), SUB n (R206, R213, R214; R215): each completes in every state with the difference
and the flags of SubOp. -/
def Obligations.SubtractFromA : Prop :=
  (∀ (r : Reg8) (s : State),
    encode (.subReg r) = [fields 0b10#2 0b010#3 r.code] ∧
    ∃ t : State, exec (.subReg r) s = .next t ∧ SubtractsFromA (s.reg8 r) s t ∧ OnlyRegsAndFlags s t) ∧
  (∀ s : State, encode .subAtHl = [0x96#8] ∧
    ∃ t : State, exec .subAtHl s = .next t ∧ SubtractsFromA (peek s (s.pair .hl)) s t ∧ AfterOneRead (s.pair .hl) s t) ∧
  (∀ (n : Byte) (s : State), encode (.subImm n) = [0xD6#8, n] ∧
    ∃ t : State, exec (.subImm n) s = .next t ∧ SubtractsFromA n s t ∧ OnlyRegsAndFlags s t)

/-- CP r for the seven registers, CP (HL), CP n (R206, R216, R217; R218): each completes in every state with the flags of SubOp
and no register written. -/
def Obligations.CompareWithA : Prop :=
  (∀ (r : Reg8) (s : State),
    encode (.cpReg r) = [fields 0b10#2 0b111#3 r.code] ∧
    ∃ t : State, exec (.cpReg r) s = .next t ∧ ComparesWithA (s.reg8 r) s t ∧ OnlyRegsAndFlags s t) ∧
  (∀ s : State, encode .cpAtHl = [0xBE#8] ∧
    ∃ t : State, exec .cpAtHl s = .next t ∧ ComparesWithA (peek s (s.pair .hl)) s t ∧ AfterOneRead (s.pair .hl) s t) ∧
  (∀ (n : Byte) (s : State), encode (.cpImm n) = [0xFE#8, n] ∧
    ∃ t : State, exec (.cpImm n) s = .next t ∧ ComparesWithA n s t ∧ OnlyRegsAndFlags s t)

/-- XOR A (R219): it completes in every state with A = 0x00 and F = 0x80, whatever they were; every other XOR byte and every
AND and OR byte is undefined. -/
def Obligations.XorA : Prop :=
  (∀ s : State, encode .xorA = [0xAF#8] ∧ exec .xorA s = .next { s with a := 0x00#8, f := 0x80#8 }) ∧
  (∀ op : Byte, (0xA0#8 ≤ op ∧ op ≤ 0xAE#8) ∨ (0xB0#8 ≤ op ∧ op ≤ 0xB7#8) ∨ op = 0xE6#8 ∨ op = 0xEE#8 ∨ op = 0xF6#8 →
    lookup .primary op = none)

/-! ## Rotate and bit test -/

/-- RL r for the seven registers (R229, R231) and RLA (R230, where decision D20 takes Z from the result): each completes in
every state with RotL; RL A and RLA leave the same state and differ in length and default cost; RL (HL) is undefined. -/
def Obligations.RotateLeft : Prop :=
  (∀ (r : Reg8) (s : State),
    encode (.rlReg r) = [0xCB#8, fields 0b00#2 0b010#3 r.code] ∧
    ∃ t : State, exec (.rlReg r) s = .next t ∧ RotatesLeft r s t) ∧
  (∀ s : State, encode .rla = [0x17#8] ∧ ∃ t : State, exec .rla s = .next t ∧ RotatesLeft .a s t) ∧
  (∀ s : State, exec .rlA s = exec .rla s) ∧
  (∀ b : Bool, defaultCycles .rlA b ≠ defaultCycles .rla b) ∧
  lookup .extended 0x16#8 = none

/-- BIT b,r for the eight bits and seven registers (R232) and BIT b,(HL) (R233, which decision D1 includes): each completes in
every state with Z from the tested bit, N clear, H set, C kept, and no register or byte written. -/
def Obligations.BitTest : Prop :=
  (∀ (b : BitNo) (r : Reg8) (s : State),
    encode (.bitReg b r) = [0xCB#8, fields 0b01#2 b.code r.code] ∧
    ∃ t : State, exec (.bitReg b r) s = .next t ∧ TestsBit b.toNat (s.reg8 r) s t ∧ OnlyRegsAndFlags s t) ∧
  (∀ (b : BitNo) (s : State),
    encode (.bitAtHl b) = [0xCB#8, fields 0b01#2 b.code 0b110#3] ∧
    ∃ t : State, exec (.bitAtHl b) s = .next t ∧ TestsBit b.toNat (peek s (s.pair .hl)) s t ∧
      AfterOneRead (s.pair .hl) s t)

/-! ## Control transfer -/

/-- JR e, JR NZ,e, JR Z,e (R239, R240, R241; R242, decision D1): each completes in every state and writes PC alone. The target
is PC (the address after the operand byte, so the address of the opcode plus 2) plus the displacement, e - 256 for e > 127
and else e, modulo 2^16; that is PC plus e sign-extended. -/
def Obligations.RelativeJump : Prop :=
  (∀ (e : Byte) (s : State),
    BitVec.ofInt 16 ((s.pc.toNat : Int) + (if e.toNat > 127 then (e.toNat : Int) - 256 else (e.toNat : Int))) =
      s.pc + e.signExtend 16) ∧
  (∀ s : State, (fetched 2 s).pc = s.pc + 2#16) ∧
  (∀ (e : Byte) (s : State),
    encode (.jr e) = [0x18#8, e] ∧ encode (.jrNz e) = [0x20#8, e] ∧ encode (.jrZ e) = [0x28#8, e] ∧
    exec (.jr e) s = .next { s with pc := s.pc + e.signExtend 16 } ∧
    exec (.jrNz e) s = .next { s with pc := if s.zFlag then s.pc else s.pc + e.signExtend 16 } ∧
    exec (.jrZ e) s = .next { s with pc := if s.zFlag then s.pc + e.signExtend 16 else s.pc })

/-- CALL nn (R243) and RST 38H (R244, decision D19): each completes in every state; SP goes down by 2, the PC after the
instruction is stored there by a word write, low byte first, wherever the two bytes land, and PC becomes the target. -/
def Obligations.CallAndRestart : Prop :=
  (∀ (nn : Word) (s : State),
    encode (.call nn) = [0xCD#8, nn.setWidth 8, (nn >>> 8).setWidth 8] ∧
    ∃ t : State, exec (.call nn) s = .next t ∧ t.pc = nn ∧ t.sp = s.sp - 2#16 ∧
      t = { memWrite16 { s with sp := s.sp - 2#16 } (s.sp - 2#16) s.pc with pc := nn } ∧
      StoresOneWord (s.sp - 2#16) s.pc s t ∧ OnlyStores { s with sp := t.sp, pc := t.pc } t) ∧
  (∀ s : State,
    encode .rst38 = [0xFF#8] ∧
    ∃ t : State, exec .rst38 s = .next t ∧ t.pc = 0x0038#16 ∧ t.sp = s.sp - 2#16 ∧
      t = { memWrite16 { s with sp := s.sp - 2#16 } (s.sp - 2#16) s.pc with pc := 0x0038#16 } ∧
      StoresOneWord (s.sp - 2#16) s.pc s t ∧ OnlyStores { s with sp := t.sp, pc := t.pc } t)

/-- RET (R245): it completes in every state; PC becomes the word at SP, low byte first, and SP goes up by 2; conditional
returns and RETI are undefined. -/
def Obligations.ReturnFromCall : Prop :=
  (∀ s : State,
    encode .ret = [0xC9#8] ∧
    ∃ t : State, exec .ret s = .next t ∧
      t.pc = peek (afterRead s s.sp) (s.sp + 1#16) ++ peek s s.sp ∧ t.sp = s.sp + 2#16 ∧
      t.a = s.a ∧ t.b = s.b ∧ t.c = s.c ∧ t.d = s.d ∧ t.e = s.e ∧ t.h = s.h ∧ t.l = s.l ∧ t.f = s.f ∧
      AfterTwoReads s.sp (s.sp + 1#16) { s with pc := t.pc, sp := t.sp } t) ∧
  (∀ op : Byte, op ∈ [0xC0#8, 0xC8#8, 0xD0#8, 0xD8#8, 0xD9#8] → lookup .primary op = none)

/-! ## The stack -/

/-- PUSH BC, PUSH DE, PUSH HL (R250): it completes in every state; SP goes down by 2, the high byte of the pair is written at
the old SP - 1 and then the low byte at the old SP - 2, wherever the two land; no register and no flag is written. -/
def Obligations.PushPair : Prop :=
  ∀ (q : Pair) (s : State),
    encode (.push q) = [fields 0b11#2 (pairField q.code) 0b101#3] ∧
    ∃ t : State, exec (.push q) s = .next t ∧ t.sp = s.sp - 2#16 ∧
      t = memWrite (memWrite { s with sp := s.sp - 2#16 } (s.sp - 1#16) (hiByte (s.pair q))) (s.sp - 2#16) (loByte (s.pair q)) ∧
      StoresOneWord (s.sp - 2#16) (s.pair q) s t ∧ OnlyStores { s with sp := t.sp } t

/-- POP BC, POP DE, POP HL (R251): it completes in every state; the pair becomes the word at SP, low byte first, SP goes up by
2, and no other register and no flag is written. -/
def Obligations.PopPair : Prop :=
  ∀ (q : Pair) (s : State),
    encode (.pop q) = [fields 0b11#2 (pairField q.code) 0b001#3] ∧
    ∃ t : State, exec (.pop q) s = .next t ∧
      t.pair q = peek (afterRead s s.sp) (s.sp + 1#16) ++ peek s s.sp ∧ t.sp = s.sp + 2#16 ∧
      (∀ q' : Pair, q' ≠ q → t.pair q' = s.pair q') ∧ t.a = s.a ∧ t.f = s.f ∧
      AfterTwoReads s.sp (s.sp + 1#16) { s with sp := t.sp } t

/-! ## Laws between instructions -/

/-- R207: H of ADD is set exactly when the low nibbles sum past 0xF, H of SUB and CP exactly when the low nibble of A is
less than the operand's. -/
def Obligations.HalfCarryIsNibbleCarry : Prop :=
  ∀ (n : Byte) (s : State),
    (∃ t : State, exec (.addImm n) s = .next t ∧ t.hFlag = decide (s.a.toNat % 16 + n.toNat % 16 > 0xF)) ∧
    (∃ t : State, exec (.subImm n) s = .next t ∧ t.hFlag = decide (s.a.toNat % 16 < n.toNat % 16)) ∧
    (∃ t : State, exec (.cpImm n) s = .next t ∧ t.hFlag = decide (s.a.toNat % 16 < n.toNat % 16))

/-- R221, R222: CP leaves the flags of SUB and the old A, in every operand form; a SUB after an ADD of the same byte gives A
back, and its C is the C of the ADD. -/
def Obligations.AddSubtractCompareLaws : Prop :=
  (∀ (r : Reg8) (n : Byte) (s : State),
    (∃ t u : State, exec (.cpReg r) s = .next t ∧ exec (.subReg r) s = .next u ∧ t = { u with a := s.a }) ∧
    (∃ t u : State, exec .cpAtHl s = .next t ∧ exec .subAtHl s = .next u ∧ t = { u with a := s.a }) ∧
    (∃ t u : State, exec (.cpImm n) s = .next t ∧ exec (.subImm n) s = .next u ∧ t = { u with a := s.a })) ∧
  (∀ (n : Byte) (s : State), ∃ t u : State, exec (.addImm n) s = .next t ∧ exec (.subImm n) t = .next u ∧
    u.a = s.a ∧ u.cFlag = t.cFlag)

/-- R234: nine RL of one register give the register and C back; eight RL of 0x01 with C clear give 0x00 with C set. -/
def Obligations.RotatePeriod : Prop :=
  (∀ (r : Reg8) (s : State), ∃ t : State, repeatExec (.rlReg r) 9 s = .next t ∧
    t.reg8 r = s.reg8 r ∧ t.cFlag = s.cFlag ∧ OtherRegsKept r s t) ∧
  (∀ (r : Reg8) (s : State), s.reg8 r = 0x01#8 → s.cFlag = false →
    ∃ t : State, repeatExec (.rlReg r) 8 s = .next t ∧ t.reg8 r = 0x00#8 ∧ t.cFlag = true)

/-- R252: a POP after a PUSH restores SP in every case, and gives the pushed word where both stack bytes are RAM. -/
def Obligations.StackRoundTrip : Prop :=
  ∀ (q q' : Pair) (s : State), ∃ t u : State, exec (.push q) s = .next t ∧ exec (.pop q') t = .next u ∧ u.sp = s.sp ∧
    (isRam (s.sp - 1#16) = true → isRam (s.sp - 2#16) = true → u.pair q' = s.pair q)

/-- R253: where both stack bytes are RAM, RET after CALL or RST 38H returns to the PC after the call and restores SP, RET
after PUSH jumps to the pushed word, and POP after CALL takes the return address. -/
def Obligations.CallReturnRoundTrip : Prop :=
  ∀ (nn : Word) (q : Pair) (s : State), isRam (s.sp - 1#16) = true → isRam (s.sp - 2#16) = true →
    (∃ t u : State, exec (.call nn) s = .next t ∧ exec .ret t = .next u ∧ u.pc = s.pc ∧ u.sp = s.sp) ∧
    (∃ t u : State, exec .rst38 s = .next t ∧ exec .ret t = .next u ∧ u.pc = s.pc ∧ u.sp = s.sp) ∧
    (∃ t u : State, exec (.push q) s = .next t ∧ exec .ret t = .next u ∧ u.pc = s.pair q ∧ u.sp = s.sp) ∧
    (∃ t u : State, exec (.call nn) s = .next t ∧ exec (.pop q) t = .next u ∧ u.pair q = s.pc ∧ u.sp = s.sp)

/-! ## Memory -/

/-- R100: the byte read of the MMU, line by line, and its one side effect. -/
def Obligations.ReadMap : Prop :=
  ∀ (s : State) (a : Word),
    (memRead s a).1 =
      (if a.toNat < 0x8000 then
        (if s.bootFlag = true ∧ a.toNat < bootRomSize then Cells.get unlistedByte s.bootRom (a.toNat &&& 0xFF)
        else Cells.get unlistedByte s.cartRom (a.toNat &&& 0x7FFF))
      else if a.toNat < 0xA000 then Cells.get unlistedByte s.vram (a.toNat &&& 0x1FFF)
      else if a.toNat < 0xC000 then 0x00#8
      else if a.toNat < 0xFE00 then Cells.get unlistedByte s.wram (a.toNat &&& 0x1FFF)
      else if a.toNat < 0xFF00 then 0x00#8
      else if 0xFF40 ≤ a.toNat ∧ a.toNat ≤ 0xFF4B then ppuRegRead s.ppu a.toNat
      else if 0xFF80 ≤ a.toNat ∧ a.toNat ≤ 0xFFFE then Cells.get unlistedByte s.zram (a.toNat &&& 0x7F)
      else 0x00#8) ∧
    (memRead s a).2 = { s with bootFlag := if s.bootFlag = true ∧ a.toNat = bootRomSize then false else s.bootFlag }

/-- R102: the byte write of the MMU, line by line: the store it reaches takes the byte at the masked index and keeps every
other byte, and a write of ROM or of a stub changes nothing. -/
def Obligations.WriteMap : Prop :=
  ∀ (s : State) (a : Word) (v : Byte),
    (a.toNat < 0x8000 → memWrite s a v = s) ∧
    (0x8000 ≤ a.toNat → a.toNat < 0xA000 → memWrite s a v = videoWrite s (a.toNat &&& 0x1FFF) v) ∧
    (0xA000 ≤ a.toNat → a.toNat < 0xC000 → memWrite s a v = s) ∧
    (0xC000 ≤ a.toNat → a.toNat < 0xFE00 →
      memWrite s a v = { s with wram := (memWrite s a v).wram } ∧
      ∀ k : Nat, Cells.get unlistedByte (memWrite s a v).wram k =
        if k = a.toNat &&& 0x1FFF then v else Cells.get unlistedByte s.wram k) ∧
    (0xFE00 ≤ a.toNat → a.toNat < 0xFF40 → memWrite s a v = s) ∧
    (0xFF40 ≤ a.toNat → a.toNat ≤ 0xFF4B → memWrite s a v = { s with ppu := ppuRegWrite s.ppu a.toNat v }) ∧
    (0xFF4C ≤ a.toNat → a.toNat < 0xFF80 → memWrite s a v = s) ∧
    (0xFF80 ≤ a.toNat → a.toNat ≤ 0xFFFE →
      memWrite s a v = { s with zram := (memWrite s a v).zram } ∧
      ∀ k : Nat, Cells.get unlistedByte (memWrite s a v).zram k =
        if k = a.toNat &&& 0x7F then v else Cells.get unlistedByte s.zram k) ∧
    (a = 0xFFFF#16 → memWrite s a v = s)

/-- R99 (decision D26): an address of 0xE000 to 0xFDFF names the byte 0x2000 below it, for reading and for writing. -/
def Obligations.EchoRam : Prop :=
  ∀ (s : State) (a : Word) (v : Byte), 0xE000 ≤ a.toNat → a.toNat < 0xFE00 →
    peek s a = peek s (a - 0x2000#16) ∧ memWrite s a v = memWrite s (a - 0x2000#16) v ∧
    peek (memWrite s a v) (a - 0x2000#16) = v

/-- R83, R101 (decision D6), R110: a word write is a byte write of the low byte at the address and then one of the high byte
at the next, the address wrapping; a word read takes them in that order, the high byte seeing the boot flag as the low byte's
read left it; what is written where both bytes are RAM reads back. A Region's own word operations wrap by the mask instead. -/
def Obligations.WordAccess : Prop :=
  (∀ (s : State) (a : Word) (w : Word),
    memWrite16 s a w = memWrite (memWrite s a (w.setWidth 8)) (a + 1#16) ((w >>> 8).setWidth 8) ∧
    StoresOneWord a w s (memWrite16 s a w) ∧ OnlyStores s (memWrite16 s a w)) ∧
  (∀ (s : State) (a : Word),
    (memRead16 s a).1 = peek (afterRead s a) (a + 1#16) ++ peek s a ∧ AfterTwoReads a (a + 1#16) s (memRead16 s a).2) ∧
  (∀ (s : State) (a : Word) (w : Word), isRam a = true → isRam (a + 1#16) = true →
    (memRead16 (memWrite16 s a w) a).1 = w) ∧
  (∀ (m : Memory) (k : Nat) (w : Word), videoRegion.readWord (videoRegion.writeWord m k w) k = w) ∧
  (∀ m : Memory, videoRegion.readWord m 0x1FFF = Cells.get unlistedByte m 0 ++ Cells.get unlistedByte m 0x1FFF)

/-- R86: a Video Memory write at offset `a` stores the byte and decodes again exactly the one tile row that holds it, from the
two bytes of the row as the store left them; every other byte and pixel, and all else, is kept. -/
def Obligations.VideoWriteDecodesOneRow : Prop :=
  ∀ (s : State) (a : Nat) (v : Byte), a < 0x2000 →
    videoWrite s a v = { s with vram := (videoWrite s a v).vram, tiles := (videoWrite s a v).tiles } ∧
    (∀ k : Nat, Cells.get unlistedByte (videoWrite s a v).vram k =
      if k = a then v else Cells.get unlistedByte s.vram k) ∧
    (∀ t y x : Nat, t < 512 → y < 8 → x < 8 →
      (tilePixel (videoWrite s a v).tiles t y x).toNat =
        if t = (a &&& 0x1FFE) >>> 4 ∧ y = ((a &&& 0x1FFE) >>> 1) &&& 7 then
          (((Cells.get unlistedByte (videoWrite s a v).vram (a &&& 0x1FFE)).toNat >>> (7 - x)) &&& 1) +
            2 * (((Cells.get unlistedByte (videoWrite s a v).vram ((a &&& 0x1FFE) + 1)).toNat >>> (7 - x)) &&& 1)
        else (tilePixel s.tiles t y x).toNat)

/-- R52 to R60 (the addresses and the layout are the console's, decision D8): each PPU Register that holds a field reads back
what was written; LY and the addresses without a register ignore a write, and those read 0x00; a write changes no other PPU
Register; LCDC and BGP set their fields. -/
def Obligations.PpuRegisterAccess : Prop :=
  (∀ (s : State) (v : Byte) (x : Word),
    x ∈ [0xFF40#16, 0xFF42#16, 0xFF43#16, 0xFF45#16, 0xFF47#16, 0xFF4A#16, 0xFF4B#16] →
    peek (memWrite s x v) x = v ∧ ∀ y : Word, y ≠ x → peek (memWrite s x v) y = peek s y) ∧
  (∀ (s : State) (v : Byte) (x : Word), x ∈ [0xFF41#16, 0xFF44#16, 0xFF46#16, 0xFF48#16, 0xFF49#16] →
    memWrite s x v = s) ∧
  (∀ s : State, peek s 0xFF44#16 = s.ppu.ly ∧
    ∀ x : Word, x ∈ [0xFF41#16, 0xFF46#16, 0xFF48#16, 0xFF49#16] → peek s x = 0x00#8) ∧
  (∀ (s : State) (v : Byte), (memWrite s 0xFF40#16 v).ppu =
    { s.ppu with
      displayEnable := v.getLsbD 7, windowMapSel := v.getLsbD 6, windowEnable := v.getLsbD 5, tilesetBit := v.getLsbD 4
      bgMapSel := v.getLsbD 3, spriteSize := v.getLsbD 2, spriteEnable := v.getLsbD 1, bgEnable := v.getLsbD 0 }) ∧
  (∀ (s : State) (v : Byte),
    (memWrite s 0xFF47#16 v).ppu.pal0.toNat = v.toNat % 4 ∧ (memWrite s 0xFF47#16 v).ppu.pal1.toNat = v.toNat / 4 % 4 ∧
    (memWrite s 0xFF47#16 v).ppu.pal2.toNat = v.toNat / 16 % 4 ∧ (memWrite s 0xFF47#16 v).ppu.pal3.toNat = v.toNat / 64)

/-! ## Clocks and the PPU -/

/-- R310 (decision D16), R311, R312, R320, R321 (decision D13): the Clock operations; and a PPU step ticks the PPU Clock, then
does nothing more below the mode's threshold, else clears the Clock, dropping the excess, and makes the mode's one
transition. -/
def Obligations.ClockAndPpuStep : Prop :=
  (∀ (clk other : Clock) (n : Int),
    (n ≤ 0 → clk.tick n = clk) ∧
    (0 < n → ((clk.tick n).base : Int) = clk.base + n ∧ ((clk.tick n).fine : Int) = clk.fine + 4 * n) ∧
    clk.cleared = ⟨0, 0⟩ ∧ clk.addTime other = ⟨clk.base + other.base, clk.fine + other.fine⟩) ∧
  (threshold .oamRead = 20 ∧ threshold .vramRead = 43 ∧ threshold .horizontalBlank = 51 ∧
    threshold .verticalBlank = 114) ∧
  (∀ (p : Params) (n : Int) (s : State),
    ((s.ppuClock.tick n).base < threshold s.mode → ppuStep p n s = { s with ppuClock := s.ppuClock.tick n }) ∧
    (threshold s.mode ≤ (s.ppuClock.tick n).base → ppuStep p n s = transition p { s with ppuClock := ⟨0, 0⟩ }))

/-- R322, R323: leaving OAM_READ sets the mode alone; leaving VRAM_READ renders the scanline LY, which is then below 144, and
sets the mode; the render changes no pixel of another row and nothing but the pixel buffer. -/
def Obligations.LeaveOamReadAndVramRead : Prop :=
  (∀ (p : Params) (s : State), s.mode = .oamRead → transition p s = { s with mode := .vramRead }) ∧
  (∀ (p : Params) (s : State), s.mode = .vramRead → LineMatchesMode s →
    s.ppu.ly.toNat < 144 ∧ transition p s = { renderScanline p s with mode := .horizontalBlank } ∧
    renderScanline p s = { s with pixels := (renderScanline p s).pixels } ∧
    ∀ k : Nat, k / 640 ≠ s.ppu.ly.toNat →
      Cells.get unlistedByte (renderScanline p s).pixels k = Cells.get unlistedByte s.pixels k)

/-- R324, R325, R326 (decisions D12 and D27): the end of a horizontal blank raises LY and starts the next line, or, when LY
becomes 144, the vertical blank with a frame, a copy of the pixel buffer, handed over; the end of a vertical-blank line raises
LY, or after line 153 returns to line 0. -/
def Obligations.LineAdvance : Prop :=
  ∀ (p : Params) (s : State),
    (s.mode = .horizontalBlank → s.ppu.ly.toNat = 143 →
      transition p s = { s with
        ppu := { s.ppu with ly := 144#8 }, mode := .verticalBlank, frames := s.frames ++ [s.pixels] }) ∧
    (s.mode = .horizontalBlank → s.ppu.ly.toNat < 143 →
      transition p s = { s with ppu := { s.ppu with ly := s.ppu.ly + 1#8 }, mode := .oamRead }) ∧
    (s.mode = .verticalBlank → s.ppu.ly.toNat = 153 →
      transition p s = { s with ppu := { s.ppu with ly := 0#8 }, mode := .oamRead }) ∧
    (s.mode = .verticalBlank → s.ppu.ly.toNat < 153 →
      transition p s = { s with ppu := { s.ppu with ly := s.ppu.ly + 1#8 } })

/-- R330, R332: a disabled display renders nothing; TileIndex adds 256 to an index below 128 where the selector is 1, passes
every other through unchanged, and stays in 0 to 383. -/
def Obligations.DisplayDisabledAndTileIndex : Prop :=
  (∀ (p : Params) (s : State), s.ppu.displayEnable = false → renderScanline p s = s) ∧
  (∀ (sel : Bool) (i : Byte),
    tileIndex sel i = (if sel = true ∧ i.toNat < 128 then i.toNat + 256 else i.toNat) ∧ tileIndex sel i ≤ 383)

/-- R54 (decision D9), R331 (the map bases, the stride and the pixel row are decision D10), R333: with the display on, pixel x
of the scanline at LY shows background pixel ((SCX + x) mod 256, (LY + SCY) mod 256): the tile the map names there, its pixel
at that place through the palette and the gray levels, R = G = B and A = 255; no other byte of the buffer changes. The
selector of the tile set is LCDC bit 4 or, in the console polarity, its inverse. A render takes place with LY below 144 only
(R323); what is said here of LY from 144 up, which no run reaches, is log 15. -/
def Obligations.RenderedScanline : Prop :=
  (∀ (p : Params) (r : PpuRegs),
    (p.tilesetPolarity = .direct → tilesetSel p r = r.tilesetBit) ∧
    (p.tilesetPolarity = .console → tilesetSel p r = !r.tilesetBit)) ∧
  ∀ (p : Params) (s : State), s.ppu.displayEnable = true →
    renderScanline p s = { s with pixels := (renderScanline p s).pixels } ∧
    (∀ k : Nat, k / 640 ≠ s.ppu.ly.toNat →
      Cells.get unlistedByte (renderScanline p s).pixels k = Cells.get unlistedByte s.pixels k) ∧
    (∀ x ch : Nat, x < 160 → ch < 4 →
      Cells.get unlistedByte (renderScanline p s).pixels ((s.ppu.ly.toNat * 160 + x) * 4 + ch) =
        if ch = 3 then 255#8
        else
          p.grayLevels (s.ppu.palette (tilePixel s.tiles
            (tileIndex (tilesetSel p s.ppu) (Cells.get unlistedByte s.vram
              ((if s.ppu.bgMapSel then 0x1C00 else 0x1800) + (s.ppu.ly.toNat + s.ppu.scy.toNat) % 256 / 8 * 32 +
                (s.ppu.scx.toNat + x) % 256 / 8)))
            ((s.ppu.ly.toNat + s.ppu.scy.toNat) % 8) ((s.ppu.scx.toNat + x) % 8))))

/-- R66 (decision D27), R325, R335, R375 (decision D32): what a host reads. A frame, and the pixel buffer, is 92,160 bytes, in
row-major order the four channels of each pixel; a rendered pixel reads as one of the gray levels three times and then 255; after
reset every byte is 0x00. Status is the stop flag, the error record and PC. A PPU step that enters the vertical blank hands over
one frame, equal to the buffer, which keeps its bytes; no other PPU step hands one over. That frames are recorded is log 3. -/
def Obligations.PixelOutputAndStatus : Prop :=
  (∀ s : State, (readPixels s).length = 92160 ∧
    (∀ y x ch : Nat, y < 144 → x < 160 → ch < 4 →
      (readPixels s)[(y * 160 + x) * 4 + ch]? = some (Cells.get unlistedByte s.pixels ((y * 160 + x) * 4 + ch))) ∧
    readPixels (hostReset s) = List.replicate 92160 0x00#8 ∧
    (readStatus s).stopped = s.stopped ∧ (readStatus s).error = s.error ∧ (readStatus s).pc = s.pc) ∧
  (∀ (p : Params) (s : State) (x : Nat), s.ppu.displayEnable = true → s.ppu.ly.toNat < 144 → x < 160 →
    ∃ shade : BitVec 2, ((readPixels (renderScanline p s)).drop ((s.ppu.ly.toNat * 160 + x) * 4)).take 4 =
      [p.grayLevels shade, p.grayLevels shade, p.grayLevels shade, 255#8]) ∧
  (∀ (p : Params) (n : Int) (s : State),
    (ppuStep p n s).frames.map flatBytes =
      (if s.mode ≠ .verticalBlank ∧ (ppuStep p n s).mode = .verticalBlank then s.frames.map flatBytes ++ [readPixels s]
      else s.frames.map flatBytes) ∧
    ((ppuStep p n s).mode = .verticalBlank → readPixels (ppuStep p n s) = readPixels s))
end

