-- ==== Sys2Proof/Laws/Bytes.lean ====
section
/-! SUPPORT. A word and its two bytes (00_scope.md R20, R21). -/

namespace Sys2Proof

@[simp] theorem hiByte_wordOf (hi lo : Byte) : hiByte (wordOf hi lo) = hi := by
  unfold hiByte wordOf; ext i hlt
  have h1 : i + 8 < 16 := by omega
  simp [BitVec.getLsbD_eq_getElem hlt, h1, Nat.add_comm 8 i]
@[simp] theorem loByte_wordOf (hi lo : Byte) : loByte (wordOf hi lo) = lo := by
  unfold loByte wordOf; ext i hlt
  simp
@[simp] theorem wordOf_hiByte_loByte (w : Word) : wordOf (hiByte w) (loByte w) = w := by
  unfold hiByte loByte wordOf
  ext i hlt
  by_cases h8 : i < 8
  · simp [hlt, h8]
  · have h1 : i - 8 < 8 := by omega
    have h2 : 8 + (i - 8) = i := by omega
    simp [hlt, h8, h1, h2]

end Sys2Proof
end

