-- ==== Sys2Proof/Laws/Cells.lean ====
section
/-! SUPPORT. The laws of the cell store: a block write read back, everything else kept, the canonical form kept,
and canonical stores with the same values equal. -/

namespace Sys2Proof.Machine.Cells

variable {α : Type} (dflt : α)

@[simp] theorem get_nil (k : Nat) : get dflt [] k = dflt := rfl

theorem get_append_of_forall_ne (m m' : List (Nat × α)) (k : Nat) (h : ∀ cell ∈ m, cell.1 ≠ k) :
    get dflt (m ++ m') k = get dflt m' k := by
  induction m with
  | nil => rfl
  | cons cell m ih =>
    simp only [List.mem_cons, forall_eq_or_imp] at h
    simp [get, h.1, ih h.2]

theorem get_of_forall_ne (m : List (Nat × α)) (k : Nat) (h : ∀ cell ∈ m, cell.1 ≠ k) : get dflt m k = dflt := by
  simpa using get_append_of_forall_ne dflt m [] k h

theorem get_append_of_right_ne (m m' : List (Nat × α)) (k : Nat) (h : ∀ cell ∈ m', cell.1 ≠ k) :
    get dflt (m ++ m') k = get dflt m k := by
  induction m with
  | nil => simpa using get_of_forall_ne dflt m' k h
  | cons cell m ih => simp [get, ih]

/-- Filtering by a condition on the index does not change the value at an index that meets it. -/
theorem get_filter (m : List (Nat × α)) (keep : Nat → Bool) (k : Nat) (h : keep k = true) :
    get dflt (m.filter fun cell => keep cell.1) k = get dflt m k := by
  induction m with
  | nil => rfl
  | cons cell m ih =>
    by_cases hk : cell.1 = k
    · simp [get, hk, h]
    · by_cases hc : keep cell.1 = true <;> simp [get, hk, hc, ih]

variable [DecidableEq α]

theorem block_index (base : Nat) (vs : List α) :
    ∀ cell ∈ block dflt base vs, base ≤ cell.1 ∧ cell.1 < base + vs.length := by
  induction vs generalizing base with
  | nil => simp [block]
  | cons v vs ih =>
    intro cell hc
    have step : ∀ cell ∈ block dflt (base + 1) vs, base ≤ cell.1 ∧ cell.1 < base + (v :: vs).length := by
      intro cell hc
      have := ih (base + 1) cell hc
      simp only [List.length_cons]; omega
    unfold block at hc
    split at hc
    · exact step cell hc
    · rcases List.mem_cons.1 hc with rfl | hc
      · simp
      · exact step cell hc

theorem get_block (base : Nat) (vs : List α) (k : Nat) :
    get dflt (block dflt base vs) (base + k) = vs.getD k dflt := by
  induction vs generalizing base k with
  | nil => simp [block]
  | cons v vs ih =>
    cases k with
    | zero =>
      unfold block
      split
      · rename_i hv
        rw [get_of_forall_ne]
        · simp [hv]
        · intro cell hc
          have := block_index dflt (base + 1) vs cell hc
          omega
      · simp [get]
    | succ k =>
      have := ih (base + 1) k
      rw [show base + (k + 1) = base + 1 + k by omega]
      unfold block
      split
      · simpa using this
      · have hne : base ≠ base + 1 + k := by omega
        simpa [get, hne] using this

/-- The value at an index inside a written block. -/
theorem get_setBlock_inside (m : List (Nat × α)) (base : Nat) (vs : List α) (k : Nat) (h : k < vs.length) :
    get dflt (setBlock dflt m base vs) (base + k) = vs.getD k dflt := by
  unfold setBlock
  rw [get_append_of_right_ne, get_append_of_forall_ne, get_block]
  · intro cell hc
    simp only [List.mem_filter, decide_eq_true_eq] at hc; omega
  · intro cell hc
    simp only [List.mem_filter, decide_eq_true_eq] at hc; omega

/-- The value at an index outside a written block is kept. -/
theorem get_setBlock_outside (m : List (Nat × α)) (base : Nat) (vs : List α) (k : Nat)
    (h : k < base ∨ base + vs.length ≤ k) : get dflt (setBlock dflt m base vs) k = get dflt m k := by
  unfold setBlock
  rcases h with h | h
  · rw [get_append_of_right_ne, get_append_of_right_ne]
    · exact get_filter dflt m (fun j => decide (j < base)) k (by simpa using h)
    · intro cell hc
      have := block_index dflt base vs cell hc; omega
    · intro cell hc
      simp only [List.mem_filter, decide_eq_true_eq] at hc; omega
  · rw [get_append_of_forall_ne]
    · exact get_filter dflt m (fun j => decide (base + vs.length ≤ j)) k (by simpa using h)
    · intro cell hc
      rcases List.mem_append.1 hc with hc | hc
      · simp only [List.mem_filter, decide_eq_true_eq] at hc; omega
      · have := block_index dflt base vs cell hc; omega

/-- A written value is read back. -/
theorem get_set_same (m : List (Nat × α)) (k : Nat) (v : α) : get dflt (set dflt m k v) k = v := by
  simpa [set] using get_setBlock_inside dflt m k [v] 0 (by simp)

/-- A write leaves every other index alone. -/
theorem get_set_other (m : List (Nat × α)) (k j : Nat) (v : α) (h : j ≠ k) :
    get dflt (set dflt m k v) j = get dflt m j :=
  get_setBlock_outside dflt m k [v] j (by simp only [List.length_cons, List.length_nil]; omega)

theorem get_set (m : List (Nat × α)) (k j : Nat) (v : α) :
    get dflt (set dflt m k v) j = if j = k then v else get dflt m j := by
  split
  · next h => rw [h, get_set_same]
  · next h => exact get_set_other dflt m k j v h

/-! ## The canonical form -/

theorem canonicalFrom_iff (size low : Nat) (m : List (Nat × α)) :
    canonicalFrom dflt size low m = true ↔
      (∀ cell ∈ m, low ≤ cell.1 ∧ cell.1 < size ∧ cell.2 ≠ dflt) ∧ m.Pairwise (fun x y => x.1 < y.1) := by
  induction m generalizing low with
  | nil => simp [canonicalFrom]
  | cons cell m ih =>
    simp only [canonicalFrom, Bool.and_eq_true, decide_eq_true_eq, ih, List.mem_cons, forall_eq_or_imp,
      List.pairwise_cons]
    constructor
    · rintro ⟨⟨⟨hl, hs⟩, hv⟩, hm, hp⟩
      exact ⟨⟨⟨hl, hs, hv⟩, fun c hc => ⟨by have := (hm c hc).1; omega, (hm c hc).2⟩⟩,
        fun c hc => by have := (hm c hc).1; omega, hp⟩
    · rintro ⟨⟨⟨hl, hs, hv⟩, hm⟩, hlt, hp⟩
      exact ⟨⟨⟨hl, hs⟩, hv⟩, fun c hc => ⟨by have := hlt c hc; omega, (hm c hc).2⟩, hp⟩

theorem canonical_iff (size : Nat) (m : List (Nat × α)) :
    canonical dflt size m = true ↔
      (∀ cell ∈ m, cell.1 < size ∧ cell.2 ≠ dflt) ∧ m.Pairwise (fun x y => x.1 < y.1) := by
  simp [canonical, canonicalFrom_iff]

theorem block_value_ne (base : Nat) (vs : List α) : ∀ cell ∈ block dflt base vs, cell.2 ≠ dflt := by
  induction vs generalizing base with
  | nil => simp [block]
  | cons v vs ih =>
    unfold block
    split
    · exact ih (base + 1)
    · next hv =>
      intro cell hc
      rcases List.mem_cons.1 hc with rfl | hc
      · exact hv
      · exact ih (base + 1) cell hc

theorem block_pairwise (base : Nat) (vs : List α) :
    (block dflt base vs).Pairwise (fun x y => x.1 < y.1) := by
  induction vs generalizing base with
  | nil => simp [block]
  | cons v vs ih =>
    unfold block
    split
    · exact ih (base + 1)
    · refine List.pairwise_cons.2 ⟨fun c hc => ?_, ih (base + 1)⟩
      have := block_index dflt (base + 1) vs c hc
      simp only; omega

/-- A block write inside the store keeps the canonical form. -/
theorem canonical_setBlock (size : Nat) (m : List (Nat × α)) (base : Nat) (vs : List α)
    (hm : canonical dflt size m = true) (hb : base + vs.length ≤ size) :
    canonical dflt size (setBlock dflt m base vs) = true := by
  obtain ⟨hv, hp⟩ := (canonical_iff dflt size m).1 hm
  have hbi := block_index dflt base vs
  have hbv := block_value_ne dflt base vs
  refine (canonical_iff dflt size _).2 ⟨fun c hc => ?_, ?_⟩
  · simp only [setBlock, List.append_assoc, List.mem_append, List.mem_filter, decide_eq_true_eq] at hc
    rcases hc with ⟨h, -⟩ | h | ⟨h, -⟩
    · exact hv c h
    · exact ⟨by have := (hbi c h).2; omega, hbv c h⟩
    · exact hv c h
  · simp only [setBlock, List.append_assoc, List.pairwise_append, List.mem_append, List.mem_filter,
      decide_eq_true_eq]
    refine ⟨hp.filter _, ⟨block_pairwise dflt base vs, hp.filter _, fun x hx y hy => ?_⟩, fun x hx y hy => ?_⟩
    · have := (hbi x hx).2; omega
    · rcases hy with hy | hy
      · have := (hbi y hy).1; omega
      · omega

/-- A write inside the store keeps the canonical form. -/
theorem canonical_set (size : Nat) (m : List (Nat × α)) (k : Nat) (v : α)
    (hm : canonical dflt size m = true) (hk : k < size) : canonical dflt size (set dflt m k v) = true :=
  canonical_setBlock dflt size m k [v] hm (by simp only [List.length_cons, List.length_nil]; omega)

omit [DecidableEq α] in
theorem get_of_mem (m : List (Nat × α)) (hp : m.Pairwise (fun x y => x.1 < y.1)) (cell : Nat × α)
    (hc : cell ∈ m) : get dflt m cell.1 = cell.2 := by
  induction m with
  | nil => simp at hc
  | cons head m ih =>
    obtain ⟨hlt, hp⟩ := List.pairwise_cons.1 hp
    rcases List.mem_cons.1 hc with rfl | hc
    · simp [get]
    · have hne : head.1 ≠ cell.1 := by have := hlt cell hc; omega
      simpa [get, hne] using ih hp hc

/-- Canonical stores that read the same everywhere are the same list. -/
theorem eq_of_get_eq (size : Nat) (m m' : List (Nat × α)) (hm : canonical dflt size m = true)
    (hm' : canonical dflt size m' = true) (h : ∀ k, get dflt m k = get dflt m' k) : m = m' := by
  obtain ⟨hv, hp⟩ := (canonical_iff dflt size m).1 hm
  obtain ⟨hv', hp'⟩ := (canonical_iff dflt size m').1 hm'
  have sub : ∀ (x y : List (Nat × α)), (∀ c ∈ x, c.1 < size ∧ c.2 ≠ dflt) →
      x.Pairwise (fun x y => x.1 < y.1) → (∀ k, get dflt x k = get dflt y k) → ∀ c ∈ x, c ∈ y := by
    intro x y hx hpx hxy c hc
    by_contra hcy
    have h1 := get_of_mem dflt x hpx c hc
    rw [hxy] at h1
    have h2 : ∃ c' ∈ y, c'.1 = c.1 := by
      by_contra hno
      push Not at hno
      exact (hx c hc).2 (by rw [← h1]; exact get_of_forall_ne dflt y c.1 hno)
    have h3 : ∀ (y : List (Nat × α)), (∃ c' ∈ y, c'.1 = c.1) → (c.1, get dflt y c.1) ∈ y := by
      intro y
      induction y with
      | nil => simp
      | cons d y ih =>
        rintro ⟨c', hc', he⟩
        by_cases hd : d.1 = c.1
        · simp only [get, hd, if_true]
          exact List.mem_cons.2 (.inl (by rw [← hd]))
        · simp only [get, hd, if_false]
          rcases List.mem_cons.1 hc' with rfl | hc'
          · exact absurd he hd
          · exact List.mem_cons.2 (.inr (ih ⟨c', hc', he⟩))
    exact hcy (by simpa [h1] using h3 y h2)
  have hnd : ∀ (x : List (Nat × α)), x.Pairwise (fun x y => x.1 < y.1) → x.Nodup := fun x hx =>
    hx.imp (fun {a b} hab he => by rw [he] at hab; omega)
  refine List.Perm.eq_of_pairwise (le := fun x y => x.1 < y.1) ?_ hp hp'
    ((List.perm_ext_iff_of_nodup (hnd m hp) (hnd m' hp')).2 fun c =>
      ⟨sub m m' hv hp h c, sub m' m hv' hp' (fun k => (h k).symm) c⟩)
  intro x y _ _ hxy hyx
  omega

end Sys2Proof.Machine.Cells
end

