-- ==== Sys2Proof/Laws/State.lean ====
section
/-! SUPPORT. What each named update of the state leaves alone: one lemma per field per update, for the simplifier. -/

namespace Sys2Proof.Machine

variable (s : State)

/-! ## Register writes -/

@[simp] theorem setReg8_f (r : Reg8) (v : Byte) : (s.setReg8 r v).f = s.f := by cases r <;> rfl
@[simp] theorem setReg8_pc (r : Reg8) (v : Byte) : (s.setReg8 r v).pc = s.pc := by cases r <;> rfl
@[simp] theorem setReg8_sp (r : Reg8) (v : Byte) : (s.setReg8 r v).sp = s.sp := by cases r <;> rfl
@[simp] theorem setReg8_cpuClock (r : Reg8) (v : Byte) : (s.setReg8 r v).cpuClock = s.cpuClock := by cases r <;> rfl
@[simp] theorem setReg8_stopped (r : Reg8) (v : Byte) : (s.setReg8 r v).stopped = s.stopped := by cases r <;> rfl
@[simp] theorem setReg8_error (r : Reg8) (v : Byte) : (s.setReg8 r v).error = s.error := by cases r <;> rfl
@[simp] theorem setReg8_bootFlag (r : Reg8) (v : Byte) : (s.setReg8 r v).bootFlag = s.bootFlag := by cases r <;> rfl
@[simp] theorem setReg8_bootRom (r : Reg8) (v : Byte) : (s.setReg8 r v).bootRom = s.bootRom := by cases r <;> rfl
@[simp] theorem setReg8_cartRom (r : Reg8) (v : Byte) : (s.setReg8 r v).cartRom = s.cartRom := by cases r <;> rfl
@[simp] theorem setReg8_vram (r : Reg8) (v : Byte) : (s.setReg8 r v).vram = s.vram := by cases r <;> rfl
@[simp] theorem setReg8_tiles (r : Reg8) (v : Byte) : (s.setReg8 r v).tiles = s.tiles := by cases r <;> rfl
@[simp] theorem setReg8_wram (r : Reg8) (v : Byte) : (s.setReg8 r v).wram = s.wram := by cases r <;> rfl
@[simp] theorem setReg8_zram (r : Reg8) (v : Byte) : (s.setReg8 r v).zram = s.zram := by cases r <;> rfl
@[simp] theorem setReg8_ppu (r : Reg8) (v : Byte) : (s.setReg8 r v).ppu = s.ppu := by cases r <;> rfl
@[simp] theorem setReg8_mode (r : Reg8) (v : Byte) : (s.setReg8 r v).mode = s.mode := by cases r <;> rfl
@[simp] theorem setReg8_ppuClock (r : Reg8) (v : Byte) : (s.setReg8 r v).ppuClock = s.ppuClock := by cases r <;> rfl
@[simp] theorem setReg8_pixels (r : Reg8) (v : Byte) : (s.setReg8 r v).pixels = s.pixels := by cases r <;> rfl
@[simp] theorem setReg8_frames (r : Reg8) (v : Byte) : (s.setReg8 r v).frames = s.frames := by cases r <;> rfl
@[simp] theorem setReg8_bootImage (r : Reg8) (v : Byte) : (s.setReg8 r v).bootImage = s.bootImage := by cases r <;> rfl
@[simp] theorem setReg8_cartImage (r : Reg8) (v : Byte) : (s.setReg8 r v).cartImage = s.cartImage := by cases r <;> rfl

/-! ## Pair writes -/

@[simp] theorem setPair_f (q : Pair) (v : Word) : (s.setPair q v).f = s.f := by cases q <;> rfl
@[simp] theorem setPair_pc (q : Pair) (v : Word) : (s.setPair q v).pc = s.pc := by cases q <;> rfl
@[simp] theorem setPair_sp (q : Pair) (v : Word) : (s.setPair q v).sp = s.sp := by cases q <;> rfl
@[simp] theorem setPair_cpuClock (q : Pair) (v : Word) : (s.setPair q v).cpuClock = s.cpuClock := by cases q <;> rfl
@[simp] theorem setPair_stopped (q : Pair) (v : Word) : (s.setPair q v).stopped = s.stopped := by cases q <;> rfl
@[simp] theorem setPair_error (q : Pair) (v : Word) : (s.setPair q v).error = s.error := by cases q <;> rfl
@[simp] theorem setPair_bootFlag (q : Pair) (v : Word) : (s.setPair q v).bootFlag = s.bootFlag := by cases q <;> rfl
@[simp] theorem setPair_bootRom (q : Pair) (v : Word) : (s.setPair q v).bootRom = s.bootRom := by cases q <;> rfl
@[simp] theorem setPair_cartRom (q : Pair) (v : Word) : (s.setPair q v).cartRom = s.cartRom := by cases q <;> rfl
@[simp] theorem setPair_vram (q : Pair) (v : Word) : (s.setPair q v).vram = s.vram := by cases q <;> rfl
@[simp] theorem setPair_tiles (q : Pair) (v : Word) : (s.setPair q v).tiles = s.tiles := by cases q <;> rfl
@[simp] theorem setPair_wram (q : Pair) (v : Word) : (s.setPair q v).wram = s.wram := by cases q <;> rfl
@[simp] theorem setPair_zram (q : Pair) (v : Word) : (s.setPair q v).zram = s.zram := by cases q <;> rfl
@[simp] theorem setPair_ppu (q : Pair) (v : Word) : (s.setPair q v).ppu = s.ppu := by cases q <;> rfl
@[simp] theorem setPair_mode (q : Pair) (v : Word) : (s.setPair q v).mode = s.mode := by cases q <;> rfl
@[simp] theorem setPair_ppuClock (q : Pair) (v : Word) : (s.setPair q v).ppuClock = s.ppuClock := by cases q <;> rfl
@[simp] theorem setPair_pixels (q : Pair) (v : Word) : (s.setPair q v).pixels = s.pixels := by cases q <;> rfl
@[simp] theorem setPair_frames (q : Pair) (v : Word) : (s.setPair q v).frames = s.frames := by cases q <;> rfl
@[simp] theorem setPair_bootImage (q : Pair) (v : Word) : (s.setPair q v).bootImage = s.bootImage := by cases q <;> rfl
@[simp] theorem setPair_cartImage (q : Pair) (v : Word) : (s.setPair q v).cartImage = s.cartImage := by cases q <;> rfl

/-! ## 16-bit operand writes -/

@[simp] theorem setReg16_f (r : Reg16) (v : Word) : (s.setReg16 r v).f = s.f := by cases r <;> rfl
@[simp] theorem setReg16_pc (r : Reg16) (v : Word) : (s.setReg16 r v).pc = s.pc := by cases r <;> rfl
@[simp] theorem setReg16_cpuClock (r : Reg16) (v : Word) : (s.setReg16 r v).cpuClock = s.cpuClock := by cases r <;> rfl
@[simp] theorem setReg16_stopped (r : Reg16) (v : Word) : (s.setReg16 r v).stopped = s.stopped := by cases r <;> rfl
@[simp] theorem setReg16_error (r : Reg16) (v : Word) : (s.setReg16 r v).error = s.error := by cases r <;> rfl
@[simp] theorem setReg16_bootFlag (r : Reg16) (v : Word) : (s.setReg16 r v).bootFlag = s.bootFlag := by cases r <;> rfl
@[simp] theorem setReg16_bootRom (r : Reg16) (v : Word) : (s.setReg16 r v).bootRom = s.bootRom := by cases r <;> rfl
@[simp] theorem setReg16_cartRom (r : Reg16) (v : Word) : (s.setReg16 r v).cartRom = s.cartRom := by cases r <;> rfl
@[simp] theorem setReg16_vram (r : Reg16) (v : Word) : (s.setReg16 r v).vram = s.vram := by cases r <;> rfl
@[simp] theorem setReg16_tiles (r : Reg16) (v : Word) : (s.setReg16 r v).tiles = s.tiles := by cases r <;> rfl
@[simp] theorem setReg16_wram (r : Reg16) (v : Word) : (s.setReg16 r v).wram = s.wram := by cases r <;> rfl
@[simp] theorem setReg16_zram (r : Reg16) (v : Word) : (s.setReg16 r v).zram = s.zram := by cases r <;> rfl
@[simp] theorem setReg16_ppu (r : Reg16) (v : Word) : (s.setReg16 r v).ppu = s.ppu := by cases r <;> rfl
@[simp] theorem setReg16_mode (r : Reg16) (v : Word) : (s.setReg16 r v).mode = s.mode := by cases r <;> rfl
@[simp] theorem setReg16_ppuClock (r : Reg16) (v : Word) : (s.setReg16 r v).ppuClock = s.ppuClock := by cases r <;> rfl
@[simp] theorem setReg16_pixels (r : Reg16) (v : Word) : (s.setReg16 r v).pixels = s.pixels := by cases r <;> rfl
@[simp] theorem setReg16_frames (r : Reg16) (v : Word) : (s.setReg16 r v).frames = s.frames := by cases r <;> rfl
@[simp] theorem setReg16_bootImage (r : Reg16) (v : Word) : (s.setReg16 r v).bootImage = s.bootImage := by cases r <;> rfl
@[simp] theorem setReg16_cartImage (r : Reg16) (v : Word) : (s.setReg16 r v).cartImage = s.cartImage := by cases r <;> rfl

/-! ## The side effect of a read -/

@[simp] theorem afterRead_a (addr : Word) : (afterRead s addr).a = s.a := by unfold afterRead; split <;> rfl
@[simp] theorem afterRead_b (addr : Word) : (afterRead s addr).b = s.b := by unfold afterRead; split <;> rfl
@[simp] theorem afterRead_c (addr : Word) : (afterRead s addr).c = s.c := by unfold afterRead; split <;> rfl
@[simp] theorem afterRead_d (addr : Word) : (afterRead s addr).d = s.d := by unfold afterRead; split <;> rfl
@[simp] theorem afterRead_e (addr : Word) : (afterRead s addr).e = s.e := by unfold afterRead; split <;> rfl
@[simp] theorem afterRead_h (addr : Word) : (afterRead s addr).h = s.h := by unfold afterRead; split <;> rfl
@[simp] theorem afterRead_l (addr : Word) : (afterRead s addr).l = s.l := by unfold afterRead; split <;> rfl
@[simp] theorem afterRead_f (addr : Word) : (afterRead s addr).f = s.f := by unfold afterRead; split <;> rfl
@[simp] theorem afterRead_pc (addr : Word) : (afterRead s addr).pc = s.pc := by unfold afterRead; split <;> rfl
@[simp] theorem afterRead_sp (addr : Word) : (afterRead s addr).sp = s.sp := by unfold afterRead; split <;> rfl
@[simp] theorem afterRead_cpuClock (addr : Word) : (afterRead s addr).cpuClock = s.cpuClock := by unfold afterRead; split <;> rfl
@[simp] theorem afterRead_stopped (addr : Word) : (afterRead s addr).stopped = s.stopped := by unfold afterRead; split <;> rfl
@[simp] theorem afterRead_error (addr : Word) : (afterRead s addr).error = s.error := by unfold afterRead; split <;> rfl
@[simp] theorem afterRead_bootRom (addr : Word) : (afterRead s addr).bootRom = s.bootRom := by unfold afterRead; split <;> rfl
@[simp] theorem afterRead_cartRom (addr : Word) : (afterRead s addr).cartRom = s.cartRom := by unfold afterRead; split <;> rfl
@[simp] theorem afterRead_vram (addr : Word) : (afterRead s addr).vram = s.vram := by unfold afterRead; split <;> rfl
@[simp] theorem afterRead_tiles (addr : Word) : (afterRead s addr).tiles = s.tiles := by unfold afterRead; split <;> rfl
@[simp] theorem afterRead_wram (addr : Word) : (afterRead s addr).wram = s.wram := by unfold afterRead; split <;> rfl
@[simp] theorem afterRead_zram (addr : Word) : (afterRead s addr).zram = s.zram := by unfold afterRead; split <;> rfl
@[simp] theorem afterRead_ppu (addr : Word) : (afterRead s addr).ppu = s.ppu := by unfold afterRead; split <;> rfl
@[simp] theorem afterRead_mode (addr : Word) : (afterRead s addr).mode = s.mode := by unfold afterRead; split <;> rfl
@[simp] theorem afterRead_ppuClock (addr : Word) : (afterRead s addr).ppuClock = s.ppuClock := by unfold afterRead; split <;> rfl
@[simp] theorem afterRead_pixels (addr : Word) : (afterRead s addr).pixels = s.pixels := by unfold afterRead; split <;> rfl
@[simp] theorem afterRead_frames (addr : Word) : (afterRead s addr).frames = s.frames := by unfold afterRead; split <;> rfl
@[simp] theorem afterRead_bootImage (addr : Word) : (afterRead s addr).bootImage = s.bootImage := by unfold afterRead; split <;> rfl
@[simp] theorem afterRead_cartImage (addr : Word) : (afterRead s addr).cartImage = s.cartImage := by unfold afterRead; split <;> rfl

/-! ## Video Memory writes -/

@[simp] theorem videoWrite_a (addr : Nat) (v : Byte) : (videoWrite s addr v).a = s.a := rfl
@[simp] theorem videoWrite_b (addr : Nat) (v : Byte) : (videoWrite s addr v).b = s.b := rfl
@[simp] theorem videoWrite_c (addr : Nat) (v : Byte) : (videoWrite s addr v).c = s.c := rfl
@[simp] theorem videoWrite_d (addr : Nat) (v : Byte) : (videoWrite s addr v).d = s.d := rfl
@[simp] theorem videoWrite_e (addr : Nat) (v : Byte) : (videoWrite s addr v).e = s.e := rfl
@[simp] theorem videoWrite_h (addr : Nat) (v : Byte) : (videoWrite s addr v).h = s.h := rfl
@[simp] theorem videoWrite_l (addr : Nat) (v : Byte) : (videoWrite s addr v).l = s.l := rfl
@[simp] theorem videoWrite_f (addr : Nat) (v : Byte) : (videoWrite s addr v).f = s.f := rfl
@[simp] theorem videoWrite_pc (addr : Nat) (v : Byte) : (videoWrite s addr v).pc = s.pc := rfl
@[simp] theorem videoWrite_sp (addr : Nat) (v : Byte) : (videoWrite s addr v).sp = s.sp := rfl
@[simp] theorem videoWrite_cpuClock (addr : Nat) (v : Byte) : (videoWrite s addr v).cpuClock = s.cpuClock := rfl
@[simp] theorem videoWrite_stopped (addr : Nat) (v : Byte) : (videoWrite s addr v).stopped = s.stopped := rfl
@[simp] theorem videoWrite_error (addr : Nat) (v : Byte) : (videoWrite s addr v).error = s.error := rfl
@[simp] theorem videoWrite_bootFlag (addr : Nat) (v : Byte) : (videoWrite s addr v).bootFlag = s.bootFlag := rfl
@[simp] theorem videoWrite_bootRom (addr : Nat) (v : Byte) : (videoWrite s addr v).bootRom = s.bootRom := rfl
@[simp] theorem videoWrite_cartRom (addr : Nat) (v : Byte) : (videoWrite s addr v).cartRom = s.cartRom := rfl
@[simp] theorem videoWrite_wram (addr : Nat) (v : Byte) : (videoWrite s addr v).wram = s.wram := rfl
@[simp] theorem videoWrite_zram (addr : Nat) (v : Byte) : (videoWrite s addr v).zram = s.zram := rfl
@[simp] theorem videoWrite_ppu (addr : Nat) (v : Byte) : (videoWrite s addr v).ppu = s.ppu := rfl
@[simp] theorem videoWrite_mode (addr : Nat) (v : Byte) : (videoWrite s addr v).mode = s.mode := rfl
@[simp] theorem videoWrite_ppuClock (addr : Nat) (v : Byte) : (videoWrite s addr v).ppuClock = s.ppuClock := rfl
@[simp] theorem videoWrite_pixels (addr : Nat) (v : Byte) : (videoWrite s addr v).pixels = s.pixels := rfl
@[simp] theorem videoWrite_frames (addr : Nat) (v : Byte) : (videoWrite s addr v).frames = s.frames := rfl
@[simp] theorem videoWrite_bootImage (addr : Nat) (v : Byte) : (videoWrite s addr v).bootImage = s.bootImage := rfl
@[simp] theorem videoWrite_cartImage (addr : Nat) (v : Byte) : (videoWrite s addr v).cartImage = s.cartImage := rfl

/-! ## Byte writes -/

@[simp] theorem memWrite_a (addr : Word) (v : Byte) : (memWrite s addr v).a = s.a := by unfold memWrite; split <;> rfl
@[simp] theorem memWrite_b (addr : Word) (v : Byte) : (memWrite s addr v).b = s.b := by unfold memWrite; split <;> rfl
@[simp] theorem memWrite_c (addr : Word) (v : Byte) : (memWrite s addr v).c = s.c := by unfold memWrite; split <;> rfl
@[simp] theorem memWrite_d (addr : Word) (v : Byte) : (memWrite s addr v).d = s.d := by unfold memWrite; split <;> rfl
@[simp] theorem memWrite_e (addr : Word) (v : Byte) : (memWrite s addr v).e = s.e := by unfold memWrite; split <;> rfl
@[simp] theorem memWrite_h (addr : Word) (v : Byte) : (memWrite s addr v).h = s.h := by unfold memWrite; split <;> rfl
@[simp] theorem memWrite_l (addr : Word) (v : Byte) : (memWrite s addr v).l = s.l := by unfold memWrite; split <;> rfl
@[simp] theorem memWrite_f (addr : Word) (v : Byte) : (memWrite s addr v).f = s.f := by unfold memWrite; split <;> rfl
@[simp] theorem memWrite_pc (addr : Word) (v : Byte) : (memWrite s addr v).pc = s.pc := by unfold memWrite; split <;> rfl
@[simp] theorem memWrite_sp (addr : Word) (v : Byte) : (memWrite s addr v).sp = s.sp := by unfold memWrite; split <;> rfl
@[simp] theorem memWrite_cpuClock (addr : Word) (v : Byte) : (memWrite s addr v).cpuClock = s.cpuClock := by unfold memWrite; split <;> rfl
@[simp] theorem memWrite_stopped (addr : Word) (v : Byte) : (memWrite s addr v).stopped = s.stopped := by unfold memWrite; split <;> rfl
@[simp] theorem memWrite_error (addr : Word) (v : Byte) : (memWrite s addr v).error = s.error := by unfold memWrite; split <;> rfl
@[simp] theorem memWrite_bootFlag (addr : Word) (v : Byte) : (memWrite s addr v).bootFlag = s.bootFlag := by unfold memWrite; split <;> rfl
@[simp] theorem memWrite_bootRom (addr : Word) (v : Byte) : (memWrite s addr v).bootRom = s.bootRom := by unfold memWrite; split <;> rfl
@[simp] theorem memWrite_cartRom (addr : Word) (v : Byte) : (memWrite s addr v).cartRom = s.cartRom := by unfold memWrite; split <;> rfl
@[simp] theorem memWrite_mode (addr : Word) (v : Byte) : (memWrite s addr v).mode = s.mode := by unfold memWrite; split <;> rfl
@[simp] theorem memWrite_ppuClock (addr : Word) (v : Byte) : (memWrite s addr v).ppuClock = s.ppuClock := by unfold memWrite; split <;> rfl
@[simp] theorem memWrite_pixels (addr : Word) (v : Byte) : (memWrite s addr v).pixels = s.pixels := by unfold memWrite; split <;> rfl
@[simp] theorem memWrite_frames (addr : Word) (v : Byte) : (memWrite s addr v).frames = s.frames := by unfold memWrite; split <;> rfl
@[simp] theorem memWrite_bootImage (addr : Word) (v : Byte) : (memWrite s addr v).bootImage = s.bootImage := by unfold memWrite; split <;> rfl
@[simp] theorem memWrite_cartImage (addr : Word) (v : Byte) : (memWrite s addr v).cartImage = s.cartImage := by unfold memWrite; split <;> rfl

/-! ## Word writes -/

@[simp] theorem memWrite16_a (addr v : Word) : (memWrite16 s addr v).a = s.a := by simp [memWrite16]
@[simp] theorem memWrite16_b (addr v : Word) : (memWrite16 s addr v).b = s.b := by simp [memWrite16]
@[simp] theorem memWrite16_c (addr v : Word) : (memWrite16 s addr v).c = s.c := by simp [memWrite16]
@[simp] theorem memWrite16_d (addr v : Word) : (memWrite16 s addr v).d = s.d := by simp [memWrite16]
@[simp] theorem memWrite16_e (addr v : Word) : (memWrite16 s addr v).e = s.e := by simp [memWrite16]
@[simp] theorem memWrite16_h (addr v : Word) : (memWrite16 s addr v).h = s.h := by simp [memWrite16]
@[simp] theorem memWrite16_l (addr v : Word) : (memWrite16 s addr v).l = s.l := by simp [memWrite16]
@[simp] theorem memWrite16_f (addr v : Word) : (memWrite16 s addr v).f = s.f := by simp [memWrite16]
@[simp] theorem memWrite16_pc (addr v : Word) : (memWrite16 s addr v).pc = s.pc := by simp [memWrite16]
@[simp] theorem memWrite16_sp (addr v : Word) : (memWrite16 s addr v).sp = s.sp := by simp [memWrite16]
@[simp] theorem memWrite16_cpuClock (addr v : Word) : (memWrite16 s addr v).cpuClock = s.cpuClock := by simp [memWrite16]
@[simp] theorem memWrite16_stopped (addr v : Word) : (memWrite16 s addr v).stopped = s.stopped := by simp [memWrite16]
@[simp] theorem memWrite16_error (addr v : Word) : (memWrite16 s addr v).error = s.error := by simp [memWrite16]
@[simp] theorem memWrite16_bootFlag (addr v : Word) : (memWrite16 s addr v).bootFlag = s.bootFlag := by simp [memWrite16]
@[simp] theorem memWrite16_bootRom (addr v : Word) : (memWrite16 s addr v).bootRom = s.bootRom := by simp [memWrite16]
@[simp] theorem memWrite16_cartRom (addr v : Word) : (memWrite16 s addr v).cartRom = s.cartRom := by simp [memWrite16]
@[simp] theorem memWrite16_mode (addr v : Word) : (memWrite16 s addr v).mode = s.mode := by simp [memWrite16]
@[simp] theorem memWrite16_ppuClock (addr v : Word) : (memWrite16 s addr v).ppuClock = s.ppuClock := by simp [memWrite16]
@[simp] theorem memWrite16_pixels (addr v : Word) : (memWrite16 s addr v).pixels = s.pixels := by simp [memWrite16]
@[simp] theorem memWrite16_frames (addr v : Word) : (memWrite16 s addr v).frames = s.frames := by simp [memWrite16]
@[simp] theorem memWrite16_bootImage (addr v : Word) : (memWrite16 s addr v).bootImage = s.bootImage := by simp [memWrite16]
@[simp] theorem memWrite16_cartImage (addr v : Word) : (memWrite16 s addr v).cartImage = s.cartImage := by simp [memWrite16]

/-! ## Fetching -/

@[simp] theorem fetch_a : ((fetch s).2).a = s.a := by simp [fetch, memRead]
@[simp] theorem fetch_b : ((fetch s).2).b = s.b := by simp [fetch, memRead]
@[simp] theorem fetch_c : ((fetch s).2).c = s.c := by simp [fetch, memRead]
@[simp] theorem fetch_d : ((fetch s).2).d = s.d := by simp [fetch, memRead]
@[simp] theorem fetch_e : ((fetch s).2).e = s.e := by simp [fetch, memRead]
@[simp] theorem fetch_h : ((fetch s).2).h = s.h := by simp [fetch, memRead]
@[simp] theorem fetch_l : ((fetch s).2).l = s.l := by simp [fetch, memRead]
@[simp] theorem fetch_f : ((fetch s).2).f = s.f := by simp [fetch, memRead]
@[simp] theorem fetch_sp : ((fetch s).2).sp = s.sp := by simp [fetch, memRead]
@[simp] theorem fetch_cpuClock : ((fetch s).2).cpuClock = s.cpuClock := by simp [fetch, memRead]
@[simp] theorem fetch_stopped : ((fetch s).2).stopped = s.stopped := by simp [fetch, memRead]
@[simp] theorem fetch_error : ((fetch s).2).error = s.error := by simp [fetch, memRead]
@[simp] theorem fetch_bootRom : ((fetch s).2).bootRom = s.bootRom := by simp [fetch, memRead]
@[simp] theorem fetch_cartRom : ((fetch s).2).cartRom = s.cartRom := by simp [fetch, memRead]
@[simp] theorem fetch_vram : ((fetch s).2).vram = s.vram := by simp [fetch, memRead]
@[simp] theorem fetch_tiles : ((fetch s).2).tiles = s.tiles := by simp [fetch, memRead]
@[simp] theorem fetch_wram : ((fetch s).2).wram = s.wram := by simp [fetch, memRead]
@[simp] theorem fetch_zram : ((fetch s).2).zram = s.zram := by simp [fetch, memRead]
@[simp] theorem fetch_ppu : ((fetch s).2).ppu = s.ppu := by simp [fetch, memRead]
@[simp] theorem fetch_mode : ((fetch s).2).mode = s.mode := by simp [fetch, memRead]
@[simp] theorem fetch_ppuClock : ((fetch s).2).ppuClock = s.ppuClock := by simp [fetch, memRead]
@[simp] theorem fetch_pixels : ((fetch s).2).pixels = s.pixels := by simp [fetch, memRead]
@[simp] theorem fetch_frames : ((fetch s).2).frames = s.frames := by simp [fetch, memRead]
@[simp] theorem fetch_bootImage : ((fetch s).2).bootImage = s.bootImage := by simp [fetch, memRead]
@[simp] theorem fetch_cartImage : ((fetch s).2).cartImage = s.cartImage := by simp [fetch, memRead]

/-! ## Fetching a word -/

@[simp] theorem fetch16_a : ((fetch16 s).2).a = s.a := by simp [fetch16]
@[simp] theorem fetch16_b : ((fetch16 s).2).b = s.b := by simp [fetch16]
@[simp] theorem fetch16_c : ((fetch16 s).2).c = s.c := by simp [fetch16]
@[simp] theorem fetch16_d : ((fetch16 s).2).d = s.d := by simp [fetch16]
@[simp] theorem fetch16_e : ((fetch16 s).2).e = s.e := by simp [fetch16]
@[simp] theorem fetch16_h : ((fetch16 s).2).h = s.h := by simp [fetch16]
@[simp] theorem fetch16_l : ((fetch16 s).2).l = s.l := by simp [fetch16]
@[simp] theorem fetch16_f : ((fetch16 s).2).f = s.f := by simp [fetch16]
@[simp] theorem fetch16_sp : ((fetch16 s).2).sp = s.sp := by simp [fetch16]
@[simp] theorem fetch16_cpuClock : ((fetch16 s).2).cpuClock = s.cpuClock := by simp [fetch16]
@[simp] theorem fetch16_stopped : ((fetch16 s).2).stopped = s.stopped := by simp [fetch16]
@[simp] theorem fetch16_error : ((fetch16 s).2).error = s.error := by simp [fetch16]
@[simp] theorem fetch16_bootRom : ((fetch16 s).2).bootRom = s.bootRom := by simp [fetch16]
@[simp] theorem fetch16_cartRom : ((fetch16 s).2).cartRom = s.cartRom := by simp [fetch16]
@[simp] theorem fetch16_vram : ((fetch16 s).2).vram = s.vram := by simp [fetch16]
@[simp] theorem fetch16_tiles : ((fetch16 s).2).tiles = s.tiles := by simp [fetch16]
@[simp] theorem fetch16_wram : ((fetch16 s).2).wram = s.wram := by simp [fetch16]
@[simp] theorem fetch16_zram : ((fetch16 s).2).zram = s.zram := by simp [fetch16]
@[simp] theorem fetch16_ppu : ((fetch16 s).2).ppu = s.ppu := by simp [fetch16]
@[simp] theorem fetch16_mode : ((fetch16 s).2).mode = s.mode := by simp [fetch16]
@[simp] theorem fetch16_ppuClock : ((fetch16 s).2).ppuClock = s.ppuClock := by simp [fetch16]
@[simp] theorem fetch16_pixels : ((fetch16 s).2).pixels = s.pixels := by simp [fetch16]
@[simp] theorem fetch16_frames : ((fetch16 s).2).frames = s.frames := by simp [fetch16]
@[simp] theorem fetch16_bootImage : ((fetch16 s).2).bootImage = s.bootImage := by simp [fetch16]
@[simp] theorem fetch16_cartImage : ((fetch16 s).2).cartImage = s.cartImage := by simp [fetch16]

/-! ## Byte pushes -/

@[simp] theorem pushByte_a (v : Byte) : (pushByte s v).a = s.a := by simp [pushByte]
@[simp] theorem pushByte_b (v : Byte) : (pushByte s v).b = s.b := by simp [pushByte]
@[simp] theorem pushByte_c (v : Byte) : (pushByte s v).c = s.c := by simp [pushByte]
@[simp] theorem pushByte_d (v : Byte) : (pushByte s v).d = s.d := by simp [pushByte]
@[simp] theorem pushByte_e (v : Byte) : (pushByte s v).e = s.e := by simp [pushByte]
@[simp] theorem pushByte_h (v : Byte) : (pushByte s v).h = s.h := by simp [pushByte]
@[simp] theorem pushByte_l (v : Byte) : (pushByte s v).l = s.l := by simp [pushByte]
@[simp] theorem pushByte_f (v : Byte) : (pushByte s v).f = s.f := by simp [pushByte]
@[simp] theorem pushByte_pc (v : Byte) : (pushByte s v).pc = s.pc := by simp [pushByte]
@[simp] theorem pushByte_cpuClock (v : Byte) : (pushByte s v).cpuClock = s.cpuClock := by simp [pushByte]
@[simp] theorem pushByte_stopped (v : Byte) : (pushByte s v).stopped = s.stopped := by simp [pushByte]
@[simp] theorem pushByte_error (v : Byte) : (pushByte s v).error = s.error := by simp [pushByte]
@[simp] theorem pushByte_bootFlag (v : Byte) : (pushByte s v).bootFlag = s.bootFlag := by simp [pushByte]
@[simp] theorem pushByte_bootRom (v : Byte) : (pushByte s v).bootRom = s.bootRom := by simp [pushByte]
@[simp] theorem pushByte_cartRom (v : Byte) : (pushByte s v).cartRom = s.cartRom := by simp [pushByte]
@[simp] theorem pushByte_mode (v : Byte) : (pushByte s v).mode = s.mode := by simp [pushByte]
@[simp] theorem pushByte_ppuClock (v : Byte) : (pushByte s v).ppuClock = s.ppuClock := by simp [pushByte]
@[simp] theorem pushByte_pixels (v : Byte) : (pushByte s v).pixels = s.pixels := by simp [pushByte]
@[simp] theorem pushByte_frames (v : Byte) : (pushByte s v).frames = s.frames := by simp [pushByte]
@[simp] theorem pushByte_bootImage (v : Byte) : (pushByte s v).bootImage = s.bootImage := by simp [pushByte]
@[simp] theorem pushByte_cartImage (v : Byte) : (pushByte s v).cartImage = s.cartImage := by simp [pushByte]

/-! ## Byte pops -/

@[simp] theorem popByte_a : ((popByte s).2).a = s.a := by simp [popByte, memRead]
@[simp] theorem popByte_b : ((popByte s).2).b = s.b := by simp [popByte, memRead]
@[simp] theorem popByte_c : ((popByte s).2).c = s.c := by simp [popByte, memRead]
@[simp] theorem popByte_d : ((popByte s).2).d = s.d := by simp [popByte, memRead]
@[simp] theorem popByte_e : ((popByte s).2).e = s.e := by simp [popByte, memRead]
@[simp] theorem popByte_h : ((popByte s).2).h = s.h := by simp [popByte, memRead]
@[simp] theorem popByte_l : ((popByte s).2).l = s.l := by simp [popByte, memRead]
@[simp] theorem popByte_f : ((popByte s).2).f = s.f := by simp [popByte, memRead]
@[simp] theorem popByte_pc : ((popByte s).2).pc = s.pc := by simp [popByte, memRead]
@[simp] theorem popByte_cpuClock : ((popByte s).2).cpuClock = s.cpuClock := by simp [popByte, memRead]
@[simp] theorem popByte_stopped : ((popByte s).2).stopped = s.stopped := by simp [popByte, memRead]
@[simp] theorem popByte_error : ((popByte s).2).error = s.error := by simp [popByte, memRead]
@[simp] theorem popByte_bootRom : ((popByte s).2).bootRom = s.bootRom := by simp [popByte, memRead]
@[simp] theorem popByte_cartRom : ((popByte s).2).cartRom = s.cartRom := by simp [popByte, memRead]
@[simp] theorem popByte_vram : ((popByte s).2).vram = s.vram := by simp [popByte, memRead]
@[simp] theorem popByte_tiles : ((popByte s).2).tiles = s.tiles := by simp [popByte, memRead]
@[simp] theorem popByte_wram : ((popByte s).2).wram = s.wram := by simp [popByte, memRead]
@[simp] theorem popByte_zram : ((popByte s).2).zram = s.zram := by simp [popByte, memRead]
@[simp] theorem popByte_ppu : ((popByte s).2).ppu = s.ppu := by simp [popByte, memRead]
@[simp] theorem popByte_mode : ((popByte s).2).mode = s.mode := by simp [popByte, memRead]
@[simp] theorem popByte_ppuClock : ((popByte s).2).ppuClock = s.ppuClock := by simp [popByte, memRead]
@[simp] theorem popByte_pixels : ((popByte s).2).pixels = s.pixels := by simp [popByte, memRead]
@[simp] theorem popByte_frames : ((popByte s).2).frames = s.frames := by simp [popByte, memRead]
@[simp] theorem popByte_bootImage : ((popByte s).2).bootImage = s.bootImage := by simp [popByte, memRead]
@[simp] theorem popByte_cartImage : ((popByte s).2).cartImage = s.cartImage := by simp [popByte, memRead]

/-! ## Pushing PC -/

@[simp] theorem pushPc_a : (pushPc s).a = s.a := by simp [pushPc]
@[simp] theorem pushPc_b : (pushPc s).b = s.b := by simp [pushPc]
@[simp] theorem pushPc_c : (pushPc s).c = s.c := by simp [pushPc]
@[simp] theorem pushPc_d : (pushPc s).d = s.d := by simp [pushPc]
@[simp] theorem pushPc_e : (pushPc s).e = s.e := by simp [pushPc]
@[simp] theorem pushPc_h : (pushPc s).h = s.h := by simp [pushPc]
@[simp] theorem pushPc_l : (pushPc s).l = s.l := by simp [pushPc]
@[simp] theorem pushPc_f : (pushPc s).f = s.f := by simp [pushPc]
@[simp] theorem pushPc_pc : (pushPc s).pc = s.pc := by simp [pushPc]
@[simp] theorem pushPc_cpuClock : (pushPc s).cpuClock = s.cpuClock := by simp [pushPc]
@[simp] theorem pushPc_stopped : (pushPc s).stopped = s.stopped := by simp [pushPc]
@[simp] theorem pushPc_error : (pushPc s).error = s.error := by simp [pushPc]
@[simp] theorem pushPc_bootFlag : (pushPc s).bootFlag = s.bootFlag := by simp [pushPc]
@[simp] theorem pushPc_bootRom : (pushPc s).bootRom = s.bootRom := by simp [pushPc]
@[simp] theorem pushPc_cartRom : (pushPc s).cartRom = s.cartRom := by simp [pushPc]
@[simp] theorem pushPc_mode : (pushPc s).mode = s.mode := by simp [pushPc]
@[simp] theorem pushPc_ppuClock : (pushPc s).ppuClock = s.ppuClock := by simp [pushPc]
@[simp] theorem pushPc_pixels : (pushPc s).pixels = s.pixels := by simp [pushPc]
@[simp] theorem pushPc_frames : (pushPc s).frames = s.frames := by simp [pushPc]
@[simp] theorem pushPc_bootImage : (pushPc s).bootImage = s.bootImage := by simp [pushPc]
@[simp] theorem pushPc_cartImage : (pushPc s).cartImage = s.cartImage := by simp [pushPc]

/-! ## The decode error -/

@[simp] theorem raiseDecodeError_a (sp : Space) (op : Byte) : (raiseDecodeError sp op s).a = s.a := rfl
@[simp] theorem raiseDecodeError_b (sp : Space) (op : Byte) : (raiseDecodeError sp op s).b = s.b := rfl
@[simp] theorem raiseDecodeError_c (sp : Space) (op : Byte) : (raiseDecodeError sp op s).c = s.c := rfl
@[simp] theorem raiseDecodeError_d (sp : Space) (op : Byte) : (raiseDecodeError sp op s).d = s.d := rfl
@[simp] theorem raiseDecodeError_e (sp : Space) (op : Byte) : (raiseDecodeError sp op s).e = s.e := rfl
@[simp] theorem raiseDecodeError_h (sp : Space) (op : Byte) : (raiseDecodeError sp op s).h = s.h := rfl
@[simp] theorem raiseDecodeError_l (sp : Space) (op : Byte) : (raiseDecodeError sp op s).l = s.l := rfl
@[simp] theorem raiseDecodeError_f (sp : Space) (op : Byte) : (raiseDecodeError sp op s).f = s.f := rfl
@[simp] theorem raiseDecodeError_pc (sp : Space) (op : Byte) : (raiseDecodeError sp op s).pc = s.pc := rfl
@[simp] theorem raiseDecodeError_sp (sp : Space) (op : Byte) : (raiseDecodeError sp op s).sp = s.sp := rfl
@[simp] theorem raiseDecodeError_cpuClock (sp : Space) (op : Byte) : (raiseDecodeError sp op s).cpuClock = s.cpuClock := rfl
@[simp] theorem raiseDecodeError_bootFlag (sp : Space) (op : Byte) : (raiseDecodeError sp op s).bootFlag = s.bootFlag := rfl
@[simp] theorem raiseDecodeError_bootRom (sp : Space) (op : Byte) : (raiseDecodeError sp op s).bootRom = s.bootRom := rfl
@[simp] theorem raiseDecodeError_cartRom (sp : Space) (op : Byte) : (raiseDecodeError sp op s).cartRom = s.cartRom := rfl
@[simp] theorem raiseDecodeError_vram (sp : Space) (op : Byte) : (raiseDecodeError sp op s).vram = s.vram := rfl
@[simp] theorem raiseDecodeError_tiles (sp : Space) (op : Byte) : (raiseDecodeError sp op s).tiles = s.tiles := rfl
@[simp] theorem raiseDecodeError_wram (sp : Space) (op : Byte) : (raiseDecodeError sp op s).wram = s.wram := rfl
@[simp] theorem raiseDecodeError_zram (sp : Space) (op : Byte) : (raiseDecodeError sp op s).zram = s.zram := rfl
@[simp] theorem raiseDecodeError_ppu (sp : Space) (op : Byte) : (raiseDecodeError sp op s).ppu = s.ppu := rfl
@[simp] theorem raiseDecodeError_mode (sp : Space) (op : Byte) : (raiseDecodeError sp op s).mode = s.mode := rfl
@[simp] theorem raiseDecodeError_ppuClock (sp : Space) (op : Byte) : (raiseDecodeError sp op s).ppuClock = s.ppuClock := rfl
@[simp] theorem raiseDecodeError_pixels (sp : Space) (op : Byte) : (raiseDecodeError sp op s).pixels = s.pixels := rfl
@[simp] theorem raiseDecodeError_frames (sp : Space) (op : Byte) : (raiseDecodeError sp op s).frames = s.frames := rfl
@[simp] theorem raiseDecodeError_bootImage (sp : Space) (op : Byte) : (raiseDecodeError sp op s).bootImage = s.bootImage := rfl
@[simp] theorem raiseDecodeError_cartImage (sp : Space) (op : Byte) : (raiseDecodeError sp op s).cartImage = s.cartImage := rfl

/-! ## The CPU Clock -/

@[simp] theorem tickCpu_a (n : Int) : (tickCpu n s).a = s.a := rfl
@[simp] theorem tickCpu_b (n : Int) : (tickCpu n s).b = s.b := rfl
@[simp] theorem tickCpu_c (n : Int) : (tickCpu n s).c = s.c := rfl
@[simp] theorem tickCpu_d (n : Int) : (tickCpu n s).d = s.d := rfl
@[simp] theorem tickCpu_e (n : Int) : (tickCpu n s).e = s.e := rfl
@[simp] theorem tickCpu_h (n : Int) : (tickCpu n s).h = s.h := rfl
@[simp] theorem tickCpu_l (n : Int) : (tickCpu n s).l = s.l := rfl
@[simp] theorem tickCpu_f (n : Int) : (tickCpu n s).f = s.f := rfl
@[simp] theorem tickCpu_pc (n : Int) : (tickCpu n s).pc = s.pc := rfl
@[simp] theorem tickCpu_sp (n : Int) : (tickCpu n s).sp = s.sp := rfl
@[simp] theorem tickCpu_stopped (n : Int) : (tickCpu n s).stopped = s.stopped := rfl
@[simp] theorem tickCpu_error (n : Int) : (tickCpu n s).error = s.error := rfl
@[simp] theorem tickCpu_bootFlag (n : Int) : (tickCpu n s).bootFlag = s.bootFlag := rfl
@[simp] theorem tickCpu_bootRom (n : Int) : (tickCpu n s).bootRom = s.bootRom := rfl
@[simp] theorem tickCpu_cartRom (n : Int) : (tickCpu n s).cartRom = s.cartRom := rfl
@[simp] theorem tickCpu_vram (n : Int) : (tickCpu n s).vram = s.vram := rfl
@[simp] theorem tickCpu_tiles (n : Int) : (tickCpu n s).tiles = s.tiles := rfl
@[simp] theorem tickCpu_wram (n : Int) : (tickCpu n s).wram = s.wram := rfl
@[simp] theorem tickCpu_zram (n : Int) : (tickCpu n s).zram = s.zram := rfl
@[simp] theorem tickCpu_ppu (n : Int) : (tickCpu n s).ppu = s.ppu := rfl
@[simp] theorem tickCpu_mode (n : Int) : (tickCpu n s).mode = s.mode := rfl
@[simp] theorem tickCpu_ppuClock (n : Int) : (tickCpu n s).ppuClock = s.ppuClock := rfl
@[simp] theorem tickCpu_pixels (n : Int) : (tickCpu n s).pixels = s.pixels := rfl
@[simp] theorem tickCpu_frames (n : Int) : (tickCpu n s).frames = s.frames := rfl
@[simp] theorem tickCpu_bootImage (n : Int) : (tickCpu n s).bootImage = s.bootImage := rfl
@[simp] theorem tickCpu_cartImage (n : Int) : (tickCpu n s).cartImage = s.cartImage := rfl

/-! ## The renderer -/

@[simp] theorem renderScanline_a (p : Params) : (renderScanline p s).a = s.a := by unfold renderScanline; split <;> rfl
@[simp] theorem renderScanline_b (p : Params) : (renderScanline p s).b = s.b := by unfold renderScanline; split <;> rfl
@[simp] theorem renderScanline_c (p : Params) : (renderScanline p s).c = s.c := by unfold renderScanline; split <;> rfl
@[simp] theorem renderScanline_d (p : Params) : (renderScanline p s).d = s.d := by unfold renderScanline; split <;> rfl
@[simp] theorem renderScanline_e (p : Params) : (renderScanline p s).e = s.e := by unfold renderScanline; split <;> rfl
@[simp] theorem renderScanline_h (p : Params) : (renderScanline p s).h = s.h := by unfold renderScanline; split <;> rfl
@[simp] theorem renderScanline_l (p : Params) : (renderScanline p s).l = s.l := by unfold renderScanline; split <;> rfl
@[simp] theorem renderScanline_f (p : Params) : (renderScanline p s).f = s.f := by unfold renderScanline; split <;> rfl
@[simp] theorem renderScanline_pc (p : Params) : (renderScanline p s).pc = s.pc := by unfold renderScanline; split <;> rfl
@[simp] theorem renderScanline_sp (p : Params) : (renderScanline p s).sp = s.sp := by unfold renderScanline; split <;> rfl
@[simp] theorem renderScanline_cpuClock (p : Params) : (renderScanline p s).cpuClock = s.cpuClock := by unfold renderScanline; split <;> rfl
@[simp] theorem renderScanline_stopped (p : Params) : (renderScanline p s).stopped = s.stopped := by unfold renderScanline; split <;> rfl
@[simp] theorem renderScanline_error (p : Params) : (renderScanline p s).error = s.error := by unfold renderScanline; split <;> rfl
@[simp] theorem renderScanline_bootFlag (p : Params) : (renderScanline p s).bootFlag = s.bootFlag := by unfold renderScanline; split <;> rfl
@[simp] theorem renderScanline_bootRom (p : Params) : (renderScanline p s).bootRom = s.bootRom := by unfold renderScanline; split <;> rfl
@[simp] theorem renderScanline_cartRom (p : Params) : (renderScanline p s).cartRom = s.cartRom := by unfold renderScanline; split <;> rfl
@[simp] theorem renderScanline_vram (p : Params) : (renderScanline p s).vram = s.vram := by unfold renderScanline; split <;> rfl
@[simp] theorem renderScanline_tiles (p : Params) : (renderScanline p s).tiles = s.tiles := by unfold renderScanline; split <;> rfl
@[simp] theorem renderScanline_wram (p : Params) : (renderScanline p s).wram = s.wram := by unfold renderScanline; split <;> rfl
@[simp] theorem renderScanline_zram (p : Params) : (renderScanline p s).zram = s.zram := by unfold renderScanline; split <;> rfl
@[simp] theorem renderScanline_ppu (p : Params) : (renderScanline p s).ppu = s.ppu := by unfold renderScanline; split <;> rfl
@[simp] theorem renderScanline_mode (p : Params) : (renderScanline p s).mode = s.mode := by unfold renderScanline; split <;> rfl
@[simp] theorem renderScanline_ppuClock (p : Params) : (renderScanline p s).ppuClock = s.ppuClock := by unfold renderScanline; split <;> rfl
@[simp] theorem renderScanline_frames (p : Params) : (renderScanline p s).frames = s.frames := by unfold renderScanline; split <;> rfl
@[simp] theorem renderScanline_bootImage (p : Params) : (renderScanline p s).bootImage = s.bootImage := by unfold renderScanline; split <;> rfl
@[simp] theorem renderScanline_cartImage (p : Params) : (renderScanline p s).cartImage = s.cartImage := by unfold renderScanline; split <;> rfl

/-! ## Setting LY -/

@[simp] theorem setLy_a (ly : Byte) : (s.setLy ly).a = s.a := rfl
@[simp] theorem setLy_b (ly : Byte) : (s.setLy ly).b = s.b := rfl
@[simp] theorem setLy_c (ly : Byte) : (s.setLy ly).c = s.c := rfl
@[simp] theorem setLy_d (ly : Byte) : (s.setLy ly).d = s.d := rfl
@[simp] theorem setLy_e (ly : Byte) : (s.setLy ly).e = s.e := rfl
@[simp] theorem setLy_h (ly : Byte) : (s.setLy ly).h = s.h := rfl
@[simp] theorem setLy_l (ly : Byte) : (s.setLy ly).l = s.l := rfl
@[simp] theorem setLy_f (ly : Byte) : (s.setLy ly).f = s.f := rfl
@[simp] theorem setLy_pc (ly : Byte) : (s.setLy ly).pc = s.pc := rfl
@[simp] theorem setLy_sp (ly : Byte) : (s.setLy ly).sp = s.sp := rfl
@[simp] theorem setLy_cpuClock (ly : Byte) : (s.setLy ly).cpuClock = s.cpuClock := rfl
@[simp] theorem setLy_stopped (ly : Byte) : (s.setLy ly).stopped = s.stopped := rfl
@[simp] theorem setLy_error (ly : Byte) : (s.setLy ly).error = s.error := rfl
@[simp] theorem setLy_bootFlag (ly : Byte) : (s.setLy ly).bootFlag = s.bootFlag := rfl
@[simp] theorem setLy_bootRom (ly : Byte) : (s.setLy ly).bootRom = s.bootRom := rfl
@[simp] theorem setLy_cartRom (ly : Byte) : (s.setLy ly).cartRom = s.cartRom := rfl
@[simp] theorem setLy_vram (ly : Byte) : (s.setLy ly).vram = s.vram := rfl
@[simp] theorem setLy_tiles (ly : Byte) : (s.setLy ly).tiles = s.tiles := rfl
@[simp] theorem setLy_wram (ly : Byte) : (s.setLy ly).wram = s.wram := rfl
@[simp] theorem setLy_zram (ly : Byte) : (s.setLy ly).zram = s.zram := rfl
@[simp] theorem setLy_mode (ly : Byte) : (s.setLy ly).mode = s.mode := rfl
@[simp] theorem setLy_ppuClock (ly : Byte) : (s.setLy ly).ppuClock = s.ppuClock := rfl
@[simp] theorem setLy_pixels (ly : Byte) : (s.setLy ly).pixels = s.pixels := rfl
@[simp] theorem setLy_frames (ly : Byte) : (s.setLy ly).frames = s.frames := rfl
@[simp] theorem setLy_bootImage (ly : Byte) : (s.setLy ly).bootImage = s.bootImage := rfl
@[simp] theorem setLy_cartImage (ly : Byte) : (s.setLy ly).cartImage = s.cartImage := rfl

/-! ## Flushing a frame -/

@[simp] theorem flushFrame_a : (flushFrame s).a = s.a := rfl
@[simp] theorem flushFrame_b : (flushFrame s).b = s.b := rfl
@[simp] theorem flushFrame_c : (flushFrame s).c = s.c := rfl
@[simp] theorem flushFrame_d : (flushFrame s).d = s.d := rfl
@[simp] theorem flushFrame_e : (flushFrame s).e = s.e := rfl
@[simp] theorem flushFrame_h : (flushFrame s).h = s.h := rfl
@[simp] theorem flushFrame_l : (flushFrame s).l = s.l := rfl
@[simp] theorem flushFrame_f : (flushFrame s).f = s.f := rfl
@[simp] theorem flushFrame_pc : (flushFrame s).pc = s.pc := rfl
@[simp] theorem flushFrame_sp : (flushFrame s).sp = s.sp := rfl
@[simp] theorem flushFrame_cpuClock : (flushFrame s).cpuClock = s.cpuClock := rfl
@[simp] theorem flushFrame_stopped : (flushFrame s).stopped = s.stopped := rfl
@[simp] theorem flushFrame_error : (flushFrame s).error = s.error := rfl
@[simp] theorem flushFrame_bootFlag : (flushFrame s).bootFlag = s.bootFlag := rfl
@[simp] theorem flushFrame_bootRom : (flushFrame s).bootRom = s.bootRom := rfl
@[simp] theorem flushFrame_cartRom : (flushFrame s).cartRom = s.cartRom := rfl
@[simp] theorem flushFrame_vram : (flushFrame s).vram = s.vram := rfl
@[simp] theorem flushFrame_tiles : (flushFrame s).tiles = s.tiles := rfl
@[simp] theorem flushFrame_wram : (flushFrame s).wram = s.wram := rfl
@[simp] theorem flushFrame_zram : (flushFrame s).zram = s.zram := rfl
@[simp] theorem flushFrame_ppu : (flushFrame s).ppu = s.ppu := rfl
@[simp] theorem flushFrame_mode : (flushFrame s).mode = s.mode := rfl
@[simp] theorem flushFrame_ppuClock : (flushFrame s).ppuClock = s.ppuClock := rfl
@[simp] theorem flushFrame_pixels : (flushFrame s).pixels = s.pixels := rfl
@[simp] theorem flushFrame_bootImage : (flushFrame s).bootImage = s.bootImage := rfl
@[simp] theorem flushFrame_cartImage : (flushFrame s).cartImage = s.cartImage := rfl

/-! ## Leaving OAM_READ -/

@[simp] theorem leaveOamRead_a : (leaveOamRead s).a = s.a := rfl
@[simp] theorem leaveOamRead_b : (leaveOamRead s).b = s.b := rfl
@[simp] theorem leaveOamRead_c : (leaveOamRead s).c = s.c := rfl
@[simp] theorem leaveOamRead_d : (leaveOamRead s).d = s.d := rfl
@[simp] theorem leaveOamRead_e : (leaveOamRead s).e = s.e := rfl
@[simp] theorem leaveOamRead_h : (leaveOamRead s).h = s.h := rfl
@[simp] theorem leaveOamRead_l : (leaveOamRead s).l = s.l := rfl
@[simp] theorem leaveOamRead_f : (leaveOamRead s).f = s.f := rfl
@[simp] theorem leaveOamRead_pc : (leaveOamRead s).pc = s.pc := rfl
@[simp] theorem leaveOamRead_sp : (leaveOamRead s).sp = s.sp := rfl
@[simp] theorem leaveOamRead_cpuClock : (leaveOamRead s).cpuClock = s.cpuClock := rfl
@[simp] theorem leaveOamRead_stopped : (leaveOamRead s).stopped = s.stopped := rfl
@[simp] theorem leaveOamRead_error : (leaveOamRead s).error = s.error := rfl
@[simp] theorem leaveOamRead_bootFlag : (leaveOamRead s).bootFlag = s.bootFlag := rfl
@[simp] theorem leaveOamRead_bootRom : (leaveOamRead s).bootRom = s.bootRom := rfl
@[simp] theorem leaveOamRead_cartRom : (leaveOamRead s).cartRom = s.cartRom := rfl
@[simp] theorem leaveOamRead_vram : (leaveOamRead s).vram = s.vram := rfl
@[simp] theorem leaveOamRead_tiles : (leaveOamRead s).tiles = s.tiles := rfl
@[simp] theorem leaveOamRead_wram : (leaveOamRead s).wram = s.wram := rfl
@[simp] theorem leaveOamRead_zram : (leaveOamRead s).zram = s.zram := rfl
@[simp] theorem leaveOamRead_ppu : (leaveOamRead s).ppu = s.ppu := rfl
@[simp] theorem leaveOamRead_ppuClock : (leaveOamRead s).ppuClock = s.ppuClock := rfl
@[simp] theorem leaveOamRead_pixels : (leaveOamRead s).pixels = s.pixels := rfl
@[simp] theorem leaveOamRead_frames : (leaveOamRead s).frames = s.frames := rfl
@[simp] theorem leaveOamRead_bootImage : (leaveOamRead s).bootImage = s.bootImage := rfl
@[simp] theorem leaveOamRead_cartImage : (leaveOamRead s).cartImage = s.cartImage := rfl

/-! ## Leaving VRAM_READ -/

@[simp] theorem leaveVramRead_a (p : Params) : (leaveVramRead p s).a = s.a := by simp [leaveVramRead]
@[simp] theorem leaveVramRead_b (p : Params) : (leaveVramRead p s).b = s.b := by simp [leaveVramRead]
@[simp] theorem leaveVramRead_c (p : Params) : (leaveVramRead p s).c = s.c := by simp [leaveVramRead]
@[simp] theorem leaveVramRead_d (p : Params) : (leaveVramRead p s).d = s.d := by simp [leaveVramRead]
@[simp] theorem leaveVramRead_e (p : Params) : (leaveVramRead p s).e = s.e := by simp [leaveVramRead]
@[simp] theorem leaveVramRead_h (p : Params) : (leaveVramRead p s).h = s.h := by simp [leaveVramRead]
@[simp] theorem leaveVramRead_l (p : Params) : (leaveVramRead p s).l = s.l := by simp [leaveVramRead]
@[simp] theorem leaveVramRead_f (p : Params) : (leaveVramRead p s).f = s.f := by simp [leaveVramRead]
@[simp] theorem leaveVramRead_pc (p : Params) : (leaveVramRead p s).pc = s.pc := by simp [leaveVramRead]
@[simp] theorem leaveVramRead_sp (p : Params) : (leaveVramRead p s).sp = s.sp := by simp [leaveVramRead]
@[simp] theorem leaveVramRead_cpuClock (p : Params) : (leaveVramRead p s).cpuClock = s.cpuClock := by simp [leaveVramRead]
@[simp] theorem leaveVramRead_stopped (p : Params) : (leaveVramRead p s).stopped = s.stopped := by simp [leaveVramRead]
@[simp] theorem leaveVramRead_error (p : Params) : (leaveVramRead p s).error = s.error := by simp [leaveVramRead]
@[simp] theorem leaveVramRead_bootFlag (p : Params) : (leaveVramRead p s).bootFlag = s.bootFlag := by simp [leaveVramRead]
@[simp] theorem leaveVramRead_bootRom (p : Params) : (leaveVramRead p s).bootRom = s.bootRom := by simp [leaveVramRead]
@[simp] theorem leaveVramRead_cartRom (p : Params) : (leaveVramRead p s).cartRom = s.cartRom := by simp [leaveVramRead]
@[simp] theorem leaveVramRead_vram (p : Params) : (leaveVramRead p s).vram = s.vram := by simp [leaveVramRead]
@[simp] theorem leaveVramRead_tiles (p : Params) : (leaveVramRead p s).tiles = s.tiles := by simp [leaveVramRead]
@[simp] theorem leaveVramRead_wram (p : Params) : (leaveVramRead p s).wram = s.wram := by simp [leaveVramRead]
@[simp] theorem leaveVramRead_zram (p : Params) : (leaveVramRead p s).zram = s.zram := by simp [leaveVramRead]
@[simp] theorem leaveVramRead_ppu (p : Params) : (leaveVramRead p s).ppu = s.ppu := by simp [leaveVramRead]
@[simp] theorem leaveVramRead_ppuClock (p : Params) : (leaveVramRead p s).ppuClock = s.ppuClock := by simp [leaveVramRead]
@[simp] theorem leaveVramRead_frames (p : Params) : (leaveVramRead p s).frames = s.frames := by simp [leaveVramRead]
@[simp] theorem leaveVramRead_bootImage (p : Params) : (leaveVramRead p s).bootImage = s.bootImage := by simp [leaveVramRead]
@[simp] theorem leaveVramRead_cartImage (p : Params) : (leaveVramRead p s).cartImage = s.cartImage := by simp [leaveVramRead]

/-! ## Leaving HORIZONTAL_BLANK -/

@[simp] theorem leaveHorizontalBlank_a : (leaveHorizontalBlank s).a = s.a := by unfold leaveHorizontalBlank; dsimp only; split <;> rfl
@[simp] theorem leaveHorizontalBlank_b : (leaveHorizontalBlank s).b = s.b := by unfold leaveHorizontalBlank; dsimp only; split <;> rfl
@[simp] theorem leaveHorizontalBlank_c : (leaveHorizontalBlank s).c = s.c := by unfold leaveHorizontalBlank; dsimp only; split <;> rfl
@[simp] theorem leaveHorizontalBlank_d : (leaveHorizontalBlank s).d = s.d := by unfold leaveHorizontalBlank; dsimp only; split <;> rfl
@[simp] theorem leaveHorizontalBlank_e : (leaveHorizontalBlank s).e = s.e := by unfold leaveHorizontalBlank; dsimp only; split <;> rfl
@[simp] theorem leaveHorizontalBlank_h : (leaveHorizontalBlank s).h = s.h := by unfold leaveHorizontalBlank; dsimp only; split <;> rfl
@[simp] theorem leaveHorizontalBlank_l : (leaveHorizontalBlank s).l = s.l := by unfold leaveHorizontalBlank; dsimp only; split <;> rfl
@[simp] theorem leaveHorizontalBlank_f : (leaveHorizontalBlank s).f = s.f := by unfold leaveHorizontalBlank; dsimp only; split <;> rfl
@[simp] theorem leaveHorizontalBlank_pc : (leaveHorizontalBlank s).pc = s.pc := by unfold leaveHorizontalBlank; dsimp only; split <;> rfl
@[simp] theorem leaveHorizontalBlank_sp : (leaveHorizontalBlank s).sp = s.sp := by unfold leaveHorizontalBlank; dsimp only; split <;> rfl
@[simp] theorem leaveHorizontalBlank_cpuClock : (leaveHorizontalBlank s).cpuClock = s.cpuClock := by unfold leaveHorizontalBlank; dsimp only; split <;> rfl
@[simp] theorem leaveHorizontalBlank_stopped : (leaveHorizontalBlank s).stopped = s.stopped := by unfold leaveHorizontalBlank; dsimp only; split <;> rfl
@[simp] theorem leaveHorizontalBlank_error : (leaveHorizontalBlank s).error = s.error := by unfold leaveHorizontalBlank; dsimp only; split <;> rfl
@[simp] theorem leaveHorizontalBlank_bootFlag : (leaveHorizontalBlank s).bootFlag = s.bootFlag := by unfold leaveHorizontalBlank; dsimp only; split <;> rfl
@[simp] theorem leaveHorizontalBlank_bootRom : (leaveHorizontalBlank s).bootRom = s.bootRom := by unfold leaveHorizontalBlank; dsimp only; split <;> rfl
@[simp] theorem leaveHorizontalBlank_cartRom : (leaveHorizontalBlank s).cartRom = s.cartRom := by unfold leaveHorizontalBlank; dsimp only; split <;> rfl
@[simp] theorem leaveHorizontalBlank_vram : (leaveHorizontalBlank s).vram = s.vram := by unfold leaveHorizontalBlank; dsimp only; split <;> rfl
@[simp] theorem leaveHorizontalBlank_tiles : (leaveHorizontalBlank s).tiles = s.tiles := by unfold leaveHorizontalBlank; dsimp only; split <;> rfl
@[simp] theorem leaveHorizontalBlank_wram : (leaveHorizontalBlank s).wram = s.wram := by unfold leaveHorizontalBlank; dsimp only; split <;> rfl
@[simp] theorem leaveHorizontalBlank_zram : (leaveHorizontalBlank s).zram = s.zram := by unfold leaveHorizontalBlank; dsimp only; split <;> rfl
@[simp] theorem leaveHorizontalBlank_ppuClock : (leaveHorizontalBlank s).ppuClock = s.ppuClock := by unfold leaveHorizontalBlank; dsimp only; split <;> rfl
@[simp] theorem leaveHorizontalBlank_pixels : (leaveHorizontalBlank s).pixels = s.pixels := by unfold leaveHorizontalBlank; dsimp only; split <;> rfl
@[simp] theorem leaveHorizontalBlank_bootImage : (leaveHorizontalBlank s).bootImage = s.bootImage := by unfold leaveHorizontalBlank; dsimp only; split <;> rfl
@[simp] theorem leaveHorizontalBlank_cartImage : (leaveHorizontalBlank s).cartImage = s.cartImage := by unfold leaveHorizontalBlank; dsimp only; split <;> rfl

/-! ## Leaving VERTICAL_BLANK -/

@[simp] theorem leaveVerticalBlank_a : (leaveVerticalBlank s).a = s.a := by unfold leaveVerticalBlank; split <;> rfl
@[simp] theorem leaveVerticalBlank_b : (leaveVerticalBlank s).b = s.b := by unfold leaveVerticalBlank; split <;> rfl
@[simp] theorem leaveVerticalBlank_c : (leaveVerticalBlank s).c = s.c := by unfold leaveVerticalBlank; split <;> rfl
@[simp] theorem leaveVerticalBlank_d : (leaveVerticalBlank s).d = s.d := by unfold leaveVerticalBlank; split <;> rfl
@[simp] theorem leaveVerticalBlank_e : (leaveVerticalBlank s).e = s.e := by unfold leaveVerticalBlank; split <;> rfl
@[simp] theorem leaveVerticalBlank_h : (leaveVerticalBlank s).h = s.h := by unfold leaveVerticalBlank; split <;> rfl
@[simp] theorem leaveVerticalBlank_l : (leaveVerticalBlank s).l = s.l := by unfold leaveVerticalBlank; split <;> rfl
@[simp] theorem leaveVerticalBlank_f : (leaveVerticalBlank s).f = s.f := by unfold leaveVerticalBlank; split <;> rfl
@[simp] theorem leaveVerticalBlank_pc : (leaveVerticalBlank s).pc = s.pc := by unfold leaveVerticalBlank; split <;> rfl
@[simp] theorem leaveVerticalBlank_sp : (leaveVerticalBlank s).sp = s.sp := by unfold leaveVerticalBlank; split <;> rfl
@[simp] theorem leaveVerticalBlank_cpuClock : (leaveVerticalBlank s).cpuClock = s.cpuClock := by unfold leaveVerticalBlank; split <;> rfl
@[simp] theorem leaveVerticalBlank_stopped : (leaveVerticalBlank s).stopped = s.stopped := by unfold leaveVerticalBlank; split <;> rfl
@[simp] theorem leaveVerticalBlank_error : (leaveVerticalBlank s).error = s.error := by unfold leaveVerticalBlank; split <;> rfl
@[simp] theorem leaveVerticalBlank_bootFlag : (leaveVerticalBlank s).bootFlag = s.bootFlag := by unfold leaveVerticalBlank; split <;> rfl
@[simp] theorem leaveVerticalBlank_bootRom : (leaveVerticalBlank s).bootRom = s.bootRom := by unfold leaveVerticalBlank; split <;> rfl
@[simp] theorem leaveVerticalBlank_cartRom : (leaveVerticalBlank s).cartRom = s.cartRom := by unfold leaveVerticalBlank; split <;> rfl
@[simp] theorem leaveVerticalBlank_vram : (leaveVerticalBlank s).vram = s.vram := by unfold leaveVerticalBlank; split <;> rfl
@[simp] theorem leaveVerticalBlank_tiles : (leaveVerticalBlank s).tiles = s.tiles := by unfold leaveVerticalBlank; split <;> rfl
@[simp] theorem leaveVerticalBlank_wram : (leaveVerticalBlank s).wram = s.wram := by unfold leaveVerticalBlank; split <;> rfl
@[simp] theorem leaveVerticalBlank_zram : (leaveVerticalBlank s).zram = s.zram := by unfold leaveVerticalBlank; split <;> rfl
@[simp] theorem leaveVerticalBlank_ppuClock : (leaveVerticalBlank s).ppuClock = s.ppuClock := by unfold leaveVerticalBlank; split <;> rfl
@[simp] theorem leaveVerticalBlank_pixels : (leaveVerticalBlank s).pixels = s.pixels := by unfold leaveVerticalBlank; split <;> rfl
@[simp] theorem leaveVerticalBlank_frames : (leaveVerticalBlank s).frames = s.frames := by unfold leaveVerticalBlank; split <;> rfl
@[simp] theorem leaveVerticalBlank_bootImage : (leaveVerticalBlank s).bootImage = s.bootImage := by unfold leaveVerticalBlank; split <;> rfl
@[simp] theorem leaveVerticalBlank_cartImage : (leaveVerticalBlank s).cartImage = s.cartImage := by unfold leaveVerticalBlank; split <;> rfl

/-! ## A PPU transition -/

@[simp] theorem transition_a (p : Params) : (transition p s).a = s.a := by unfold transition; split <;> simp
@[simp] theorem transition_b (p : Params) : (transition p s).b = s.b := by unfold transition; split <;> simp
@[simp] theorem transition_c (p : Params) : (transition p s).c = s.c := by unfold transition; split <;> simp
@[simp] theorem transition_d (p : Params) : (transition p s).d = s.d := by unfold transition; split <;> simp
@[simp] theorem transition_e (p : Params) : (transition p s).e = s.e := by unfold transition; split <;> simp
@[simp] theorem transition_h (p : Params) : (transition p s).h = s.h := by unfold transition; split <;> simp
@[simp] theorem transition_l (p : Params) : (transition p s).l = s.l := by unfold transition; split <;> simp
@[simp] theorem transition_f (p : Params) : (transition p s).f = s.f := by unfold transition; split <;> simp
@[simp] theorem transition_pc (p : Params) : (transition p s).pc = s.pc := by unfold transition; split <;> simp
@[simp] theorem transition_sp (p : Params) : (transition p s).sp = s.sp := by unfold transition; split <;> simp
@[simp] theorem transition_cpuClock (p : Params) : (transition p s).cpuClock = s.cpuClock := by unfold transition; split <;> simp
@[simp] theorem transition_stopped (p : Params) : (transition p s).stopped = s.stopped := by unfold transition; split <;> simp
@[simp] theorem transition_error (p : Params) : (transition p s).error = s.error := by unfold transition; split <;> simp
@[simp] theorem transition_bootFlag (p : Params) : (transition p s).bootFlag = s.bootFlag := by unfold transition; split <;> simp
@[simp] theorem transition_bootRom (p : Params) : (transition p s).bootRom = s.bootRom := by unfold transition; split <;> simp
@[simp] theorem transition_cartRom (p : Params) : (transition p s).cartRom = s.cartRom := by unfold transition; split <;> simp
@[simp] theorem transition_vram (p : Params) : (transition p s).vram = s.vram := by unfold transition; split <;> simp
@[simp] theorem transition_tiles (p : Params) : (transition p s).tiles = s.tiles := by unfold transition; split <;> simp
@[simp] theorem transition_wram (p : Params) : (transition p s).wram = s.wram := by unfold transition; split <;> simp
@[simp] theorem transition_zram (p : Params) : (transition p s).zram = s.zram := by unfold transition; split <;> simp
@[simp] theorem transition_ppuClock (p : Params) : (transition p s).ppuClock = s.ppuClock := by unfold transition; split <;> simp
@[simp] theorem transition_bootImage (p : Params) : (transition p s).bootImage = s.bootImage := by unfold transition; split <;> simp
@[simp] theorem transition_cartImage (p : Params) : (transition p s).cartImage = s.cartImage := by unfold transition; split <;> simp

/-! ## A PPU step -/

@[simp] theorem ppuStep_a (p : Params) (n : Int) : (ppuStep p n s).a = s.a := by
  unfold ppuStep; dsimp only; split <;> simp
@[simp] theorem ppuStep_b (p : Params) (n : Int) : (ppuStep p n s).b = s.b := by
  unfold ppuStep; dsimp only; split <;> simp
@[simp] theorem ppuStep_c (p : Params) (n : Int) : (ppuStep p n s).c = s.c := by
  unfold ppuStep; dsimp only; split <;> simp
@[simp] theorem ppuStep_d (p : Params) (n : Int) : (ppuStep p n s).d = s.d := by
  unfold ppuStep; dsimp only; split <;> simp
@[simp] theorem ppuStep_e (p : Params) (n : Int) : (ppuStep p n s).e = s.e := by
  unfold ppuStep; dsimp only; split <;> simp
@[simp] theorem ppuStep_h (p : Params) (n : Int) : (ppuStep p n s).h = s.h := by
  unfold ppuStep; dsimp only; split <;> simp
@[simp] theorem ppuStep_l (p : Params) (n : Int) : (ppuStep p n s).l = s.l := by
  unfold ppuStep; dsimp only; split <;> simp
@[simp] theorem ppuStep_f (p : Params) (n : Int) : (ppuStep p n s).f = s.f := by
  unfold ppuStep; dsimp only; split <;> simp
@[simp] theorem ppuStep_pc (p : Params) (n : Int) : (ppuStep p n s).pc = s.pc := by
  unfold ppuStep; dsimp only; split <;> simp
@[simp] theorem ppuStep_sp (p : Params) (n : Int) : (ppuStep p n s).sp = s.sp := by
  unfold ppuStep; dsimp only; split <;> simp
@[simp] theorem ppuStep_cpuClock (p : Params) (n : Int) : (ppuStep p n s).cpuClock = s.cpuClock := by
  unfold ppuStep; dsimp only; split <;> simp
@[simp] theorem ppuStep_stopped (p : Params) (n : Int) : (ppuStep p n s).stopped = s.stopped := by
  unfold ppuStep; dsimp only; split <;> simp
@[simp] theorem ppuStep_error (p : Params) (n : Int) : (ppuStep p n s).error = s.error := by
  unfold ppuStep; dsimp only; split <;> simp
@[simp] theorem ppuStep_bootFlag (p : Params) (n : Int) : (ppuStep p n s).bootFlag = s.bootFlag := by
  unfold ppuStep; dsimp only; split <;> simp
@[simp] theorem ppuStep_bootRom (p : Params) (n : Int) : (ppuStep p n s).bootRom = s.bootRom := by
  unfold ppuStep; dsimp only; split <;> simp
@[simp] theorem ppuStep_cartRom (p : Params) (n : Int) : (ppuStep p n s).cartRom = s.cartRom := by
  unfold ppuStep; dsimp only; split <;> simp
@[simp] theorem ppuStep_vram (p : Params) (n : Int) : (ppuStep p n s).vram = s.vram := by
  unfold ppuStep; dsimp only; split <;> simp
@[simp] theorem ppuStep_tiles (p : Params) (n : Int) : (ppuStep p n s).tiles = s.tiles := by
  unfold ppuStep; dsimp only; split <;> simp
@[simp] theorem ppuStep_wram (p : Params) (n : Int) : (ppuStep p n s).wram = s.wram := by
  unfold ppuStep; dsimp only; split <;> simp
@[simp] theorem ppuStep_zram (p : Params) (n : Int) : (ppuStep p n s).zram = s.zram := by
  unfold ppuStep; dsimp only; split <;> simp
@[simp] theorem ppuStep_bootImage (p : Params) (n : Int) : (ppuStep p n s).bootImage = s.bootImage := by
  unfold ppuStep; dsimp only; split <;> simp
@[simp] theorem ppuStep_cartImage (p : Params) (n : Int) : (ppuStep p n s).cartImage = s.cartImage := by
  unfold ppuStep; dsimp only; split <;> simp

/-! ## After the handler -/

@[simp] theorem afterHandler_a (p : Params) (cost : Nat) : (afterHandler p cost s).a = s.a := by simp [afterHandler]
@[simp] theorem afterHandler_b (p : Params) (cost : Nat) : (afterHandler p cost s).b = s.b := by simp [afterHandler]
@[simp] theorem afterHandler_c (p : Params) (cost : Nat) : (afterHandler p cost s).c = s.c := by simp [afterHandler]
@[simp] theorem afterHandler_d (p : Params) (cost : Nat) : (afterHandler p cost s).d = s.d := by simp [afterHandler]
@[simp] theorem afterHandler_e (p : Params) (cost : Nat) : (afterHandler p cost s).e = s.e := by simp [afterHandler]
@[simp] theorem afterHandler_h (p : Params) (cost : Nat) : (afterHandler p cost s).h = s.h := by simp [afterHandler]
@[simp] theorem afterHandler_l (p : Params) (cost : Nat) : (afterHandler p cost s).l = s.l := by simp [afterHandler]
@[simp] theorem afterHandler_f (p : Params) (cost : Nat) : (afterHandler p cost s).f = s.f := by simp [afterHandler]
@[simp] theorem afterHandler_pc (p : Params) (cost : Nat) : (afterHandler p cost s).pc = s.pc := by simp [afterHandler]
@[simp] theorem afterHandler_sp (p : Params) (cost : Nat) : (afterHandler p cost s).sp = s.sp := by simp [afterHandler]
@[simp] theorem afterHandler_stopped (p : Params) (cost : Nat) : (afterHandler p cost s).stopped = s.stopped := by simp [afterHandler]
@[simp] theorem afterHandler_error (p : Params) (cost : Nat) : (afterHandler p cost s).error = s.error := by simp [afterHandler]
@[simp] theorem afterHandler_bootFlag (p : Params) (cost : Nat) : (afterHandler p cost s).bootFlag = s.bootFlag := by simp [afterHandler]
@[simp] theorem afterHandler_bootRom (p : Params) (cost : Nat) : (afterHandler p cost s).bootRom = s.bootRom := by simp [afterHandler]
@[simp] theorem afterHandler_cartRom (p : Params) (cost : Nat) : (afterHandler p cost s).cartRom = s.cartRom := by simp [afterHandler]
@[simp] theorem afterHandler_vram (p : Params) (cost : Nat) : (afterHandler p cost s).vram = s.vram := by simp [afterHandler]
@[simp] theorem afterHandler_tiles (p : Params) (cost : Nat) : (afterHandler p cost s).tiles = s.tiles := by simp [afterHandler]
@[simp] theorem afterHandler_wram (p : Params) (cost : Nat) : (afterHandler p cost s).wram = s.wram := by simp [afterHandler]
@[simp] theorem afterHandler_zram (p : Params) (cost : Nat) : (afterHandler p cost s).zram = s.zram := by simp [afterHandler]
@[simp] theorem afterHandler_bootImage (p : Params) (cost : Nat) : (afterHandler p cost s).bootImage = s.bootImage := by simp [afterHandler]
@[simp] theorem afterHandler_cartImage (p : Params) (cost : Nat) : (afterHandler p cost s).cartImage = s.cartImage := by simp [afterHandler]

end Sys2Proof.Machine
end

