-- ==== Sys2Proof/Laws/Memory.lean ====
section
/-! SUPPORT. The laws of the memory operations: where an address is routed, what a read leaves, what a byte write does
and what it keeps. -/

namespace Sys2Proof.Machine

/-! ## Region indexes as remainders -/

@[simp] theorem bootRegion_index (n : Nat) : bootRegion.index n = n % 256 := Nat.and_two_pow_sub_one_eq_mod n 8
@[simp] theorem cartRegion_index (n : Nat) : cartRegion.index n = n % 32768 := Nat.and_two_pow_sub_one_eq_mod n 15
@[simp] theorem videoRegion_index (n : Nat) : videoRegion.index n = n % 8192 := Nat.and_two_pow_sub_one_eq_mod n 13
@[simp] theorem workRegion_index (n : Nat) : workRegion.index n = n % 8192 := Nat.and_two_pow_sub_one_eq_mod n 13
@[simp] theorem zeroPageRegion_index (n : Nat) : zeroPageRegion.index n = n % 128 :=
  Nat.and_two_pow_sub_one_eq_mod n 7

/-! ## Routing (20_memory.md R91) -/

/-- Where every address is routed. -/
theorem route_cases (booting : Bool) (a : Word) :
    (a.toNat < 0x8000 ∧ route booting a = if booting && decide (a.toNat < 0x100) then .bootRom else .cartRom) ∨
    (0x8000 ≤ a.toNat ∧ a.toNat < 0xA000 ∧ route booting a = .videoMemory) ∨
    (0xA000 ≤ a.toNat ∧ a.toNat < 0xC000 ∧ route booting a = .stub) ∨
    (0xC000 ≤ a.toNat ∧ a.toNat < 0xFE00 ∧ route booting a = .workRam) ∨
    (0xFE00 ≤ a.toNat ∧ a.toNat < 0xFF40 ∧ route booting a = .stub) ∨
    (0xFF40 ≤ a.toNat ∧ a.toNat ≤ 0xFF4B ∧ route booting a = .ppuRegs) ∨
    (0xFF4C ≤ a.toNat ∧ a.toNat < 0xFF80 ∧ route booting a = .stub) ∨
    (0xFF80 ≤ a.toNat ∧ a.toNat ≤ 0xFFFE ∧ route booting a = .zeroPage) ∨
    (a.toNat = 0xFFFF ∧ route booting a = .stub) := by
  have := a.isLt
  unfold route
  simp only [bootRomSize]
  by_cases h1 : a.toNat < 0x8000
  · exact .inl ⟨h1, by simp only [h1, if_true]; rfl⟩
  refine .inr ?_
  by_cases h2 : a.toNat < 0xA000
  · exact .inl ⟨by omega, h2, by simp [h1, h2]⟩
  refine .inr ?_
  by_cases h3 : a.toNat < 0xC000
  · exact .inl ⟨by omega, h3, by simp [h1, h2, h3]⟩
  refine .inr ?_
  by_cases h4 : a.toNat < 0xFE00
  · exact .inl ⟨by omega, h4, by simp [h1, h2, h3, h4]⟩
  refine .inr ?_
  have h6 : ∀ h : a.toNat < 0xFF40, ¬(0xFF40 ≤ a.toNat ∧ a.toNat ≤ 0xFF4B) := by omega
  by_cases h5 : a.toNat < 0xFF40
  · refine .inl ⟨by omega, h5, ?_⟩
    have h7 : ¬(0xFF80 ≤ a.toNat ∧ a.toNat ≤ 0xFFFE) := by omega
    simp only [h1, h2, h3, h4, h6 h5, h7, if_false]; split <;> rfl
  have h8 : ¬ a.toNat < 0xFF00 := by omega
  refine .inr ?_
  by_cases h9 : a.toNat ≤ 0xFF4B
  · exact .inl ⟨by omega, h9, by
      simp only [h1, h2, h3, h4, h8, if_false]; rw [if_pos ⟨by omega, h9⟩]⟩
  refine .inr ?_
  have h10 : ¬(0xFF40 ≤ a.toNat ∧ a.toNat ≤ 0xFF4B) := by omega
  by_cases h11 : a.toNat < 0xFF80
  · have h12 : ¬(0xFF80 ≤ a.toNat ∧ a.toNat ≤ 0xFFFE) := by omega
    exact .inl ⟨by omega, h11, by simp only [h1, h2, h3, h4, h8, h10, h12, if_false]⟩
  refine .inr ?_
  by_cases h13 : a.toNat ≤ 0xFFFE
  · exact .inl ⟨by omega, h13, by
      simp only [h1, h2, h3, h4, h8, h10, if_false]; rw [if_pos ⟨by omega, h13⟩]⟩
  · have h12 : ¬(0xFF80 ≤ a.toNat ∧ a.toNat ≤ 0xFFFE) := by omega
    exact .inr ⟨by omega, by simp only [h1, h2, h3, h4, h8, h10, h12, if_false]⟩

/-- Above the ROM the boot flag does not matter. -/
theorem route_of_ge (x y : Bool) (a : Word) (h : 0x100 ≤ a.toNat) : route x a = route y a := by
  have hb : decide (a.toNat < bootRomSize) = false := decide_eq_false (by unfold bootRomSize; omega)
  simp [route, hb]

/-- An address is RAM exactly when it is routed to a RAM region. -/
theorem isRam_iff (booting : Bool) (a : Word) :
    isRam a = true ↔ route booting a = .videoMemory ∨ route booting a = .workRam ∨ route booting a = .zeroPage := by
  simp only [isRam, Bool.or_eq_true, decide_eq_true_eq]
  rcases route_cases booting a with h | h | h | h | h | h | h | h | h
  · have h' : route booting a = .bootRom ∨ route booting a = .cartRom := by rw [h.2]; split <;> simp
    rcases h' with h' | h' <;> simp [h'] <;> omega
  all_goals simp [h]; try omega

/-! ## Reads -/

/-- The value a read returns, its registers, PC, stores and all else: only the boot flag may change. -/
theorem memRead_eq (s : State) (a : Word) :
    memRead s a = (peek s a, { s with bootFlag := s.bootFlag && !(a == 0x0100#16) }) := by
  have h : (a.toNat == bootRomSize) = (a == 0x0100#16) := by
    rw [Bool.eq_iff_iff]
    simp only [beq_iff_eq, bootRomSize]
    constructor
    · intro h; exact BitVec.eq_of_toNat_eq (by simpa using h)
    · rintro rfl; rfl
  unfold memRead afterRead
  rw [h]
  cases hb : s.bootFlag <;> cases hc : (a == 0x0100#16) <;> simp [← hb]

theorem memRead_fst (s : State) (a : Word) : (memRead s a).1 = peek s a := rfl

theorem memRead_snd (s : State) (a : Word) :
    (memRead s a).2 = { s with bootFlag := s.bootFlag && !(a == 0x0100#16) } := by rw [memRead_eq]

@[simp] theorem afterRead_bootFlag (s : State) (a : Word) :
    (afterRead s a).bootFlag = (s.bootFlag && !(a == 0x0100#16)) := by
  have := memRead_snd s a
  unfold memRead at this
  rw [show afterRead s a = _ from this]

/-- A byte's value rests on the boot flag's routing and on the stores alone. -/
theorem peek_congr (s t : State) (x : Word) (hr : route t.bootFlag x = route s.bootFlag x)
    (hb : t.bootRom = s.bootRom) (hc : t.cartRom = s.cartRom) (hv : t.vram = s.vram) (hw : t.wram = s.wram)
    (hz : t.zram = s.zram) (hp : t.ppu = s.ppu) : peek t x = peek s x := by
  unfold peek
  rw [hr, hb, hc, hv, hw, hz, hp]

/-! ## The tile cache under a Video Memory write (20_memory.md R86) -/

theorem and_0x1FFE (n : Nat) (h : n < 8192) : n &&& 0x1FFE = n / 2 * 2 := by
  have h1 : n &&& 0x1FFE = (n >>> 1 &&& 0xFFF) <<< 1 := by
    apply Nat.eq_of_testBit_eq
    intro i
    cases i with
    | zero => simp
    | succ i =>
      simp only [Nat.testBit_and, Nat.testBit_shiftLeft, Nat.testBit_shiftRight]
      have : Nat.testBit 0x1FFE (i + 1) = Nat.testBit 0xFFF i := by
        rw [show (0x1FFE : Nat) = 2 * 0xFFF by rfl, Nat.testBit_succ, Nat.mul_div_cancel_left _ (by omega)]
      simp [this, Nat.add_comm]
  rw [h1, Nat.shiftLeft_eq, Nat.shiftRight_eq_div_pow, show (0xFFF : Nat) = 2 ^ 12 - 1 by rfl,
    Nat.and_two_pow_sub_one_eq_mod]
  omega

theorem decodeRow_length (even odd : Byte) : (decodeRow even odd).length = 8 := by simp [decodeRow]

/-- The block of pixels that a Video Memory write at offset `a` decodes again starts at pixel `8 * (a / 2)`. -/
theorem redecodeRow_eq (vram : Memory) (tiles : TileCache) (a : Nat) (ha : a < 8192) :
    redecodeRow vram tiles a =
      Cells.setBlock unlistedPixel tiles (8 * (a / 2))
        (decodeRow (Cells.get unlistedByte vram (a / 2 * 2)) (Cells.get unlistedByte vram (a / 2 * 2 + 1))) := by
  unfold redecodeRow tileIndexOf RegionShape.readByte
  simp only [and_0x1FFE a ha, videoRegion_index]
  have h7 : ∀ n : Nat, n &&& 7 = n % 8 := fun n => Nat.and_two_pow_sub_one_eq_mod n 3
  rw [h7, Nat.shiftRight_eq_div_pow, Nat.shiftRight_eq_div_pow,
    show a / 2 * 2 % 8192 = a / 2 * 2 by omega, show (a / 2 * 2 + 1) % 8192 = a / 2 * 2 + 1 by omega]
  congr 1
  omega

/-- Every pixel after a Video Memory write: the row that holds the written byte is the decoding of its two bytes, every
other row is kept (R86). -/
theorem tilePixel_videoWrite (s : State) (addr : Nat) (v : Byte) (t y x : Nat) (hx : x < 8) :
    tilePixel (videoWrite s addr v).tiles t y x =
      if 16 * t + 2 * y = addr % 8192 / 2 * 2 then
        rowPixel (Cells.get unlistedByte (videoWrite s addr v).vram (16 * t + 2 * y))
          (Cells.get unlistedByte (videoWrite s addr v).vram (16 * t + 2 * y + 1)) x
      else tilePixel s.tiles t y x := by
  have ha : addr % 8192 < 8192 := Nat.mod_lt _ (by omega)
  unfold videoWrite
  simp only [videoRegion_index, redecodeRow_eq _ _ _ ha, tilePixel, tileIndexOf]
  split
  · next h =>
    rw [show 64 * t + 8 * y + x = 8 * (addr % 8192 / 2) + x by omega, Cells.get_setBlock_inside _ _ _ _ _
      (by rw [decodeRow_length]; exact hx), ← h]
    simp [decodeRow, hx]
  · next h =>
    rw [Cells.get_setBlock_outside]
    rw [decodeRow_length]; omega

/-! ## Byte writes -/

/-- What a byte write can do, by where the address is routed (20_memory.md R102). -/
theorem memWrite_cases (s : State) (a : Word) (v : Byte) :
    (route s.bootFlag a = .videoMemory ∧ memWrite s a v = videoWrite s a.toNat v) ∨
    (route s.bootFlag a = .workRam ∧
      memWrite s a v = { s with wram := Cells.set unlistedByte s.wram (a.toNat % 8192) v }) ∨
    (route s.bootFlag a = .zeroPage ∧
      memWrite s a v = { s with zram := Cells.set unlistedByte s.zram (a.toNat % 128) v }) ∨
    (route s.bootFlag a = .ppuRegs ∧ memWrite s a v = { s with ppu := ppuRegWrite s.ppu a.toNat v }) ∨
    ((route s.bootFlag a = .bootRom ∨ route s.bootFlag a = .cartRom ∨ route s.bootFlag a = .stub) ∧
      memWrite s a v = s) := by
  unfold memWrite
  cases h : route s.bootFlag a <;> simp [RegionShape.writeByte]

/-- A PPU register write changes what no other address reads. -/
theorem ppuRegRead_write_other (r : PpuRegs) (a x : Nat) (v : Byte) (h : x ≠ a) :
    ppuRegRead (ppuRegWrite r a v) x = ppuRegRead r x := by
  have key : ∀ (r' : PpuRegs) (b : Nat), a = b →
      (x ≠ b → ppuRegRead r' x = ppuRegRead r x) → ppuRegRead r' x = ppuRegRead r x := fun r' b hb hk => hk (hb ▸ h)
  unfold ppuRegWrite
  split
  · next hb => exact key _ _ hb fun hx => by unfold ppuRegRead; rw [if_neg hx, if_neg hx]; rfl
  split
  · next hb => exact key _ _ hb fun hx => by simp only [ppuRegRead, hx, if_false]; rfl
  split
  · next hb => exact key _ _ hb fun hx => by simp only [ppuRegRead, hx, if_false]; rfl
  split
  · next hb => exact key _ _ hb fun hx => by simp only [ppuRegRead, hx, if_false]; rfl
  split
  · next hb => exact key _ _ hb fun hx => by simp only [ppuRegRead, hx, if_false]; rfl
  split
  · next hb => exact key _ _ hb fun hx => by simp only [ppuRegRead, hx, if_false]; rfl
  split
  · next hb => exact key _ _ hb fun hx => by simp only [ppuRegRead, hx, if_false]; rfl
  · rfl

/-- A PPU register write leaves LY alone (10_state.md R57). -/
@[simp] theorem ppuRegWrite_ly (r : PpuRegs) (a : Nat) (v : Byte) : (ppuRegWrite r a v).ly = r.ly := by
  unfold ppuRegWrite; repeat' split
  all_goals rfl

/-- Every other byte reads as before a write (the frame of `memWrite`). -/
theorem peek_memWrite_other (s : State) (a x : Word) (v : Byte) (h : cellOf s.bootFlag x ≠ cellOf s.bootFlag a) :
    peek (memWrite s a v) x = peek s x := by
  have hne : route s.bootFlag x = route s.bootFlag a →
      targetIndex (route s.bootFlag x) x ≠ targetIndex (route s.bootFlag a) a := fun h1 h2 =>
    h (Prod.ext h1 h2)
  rcases memWrite_cases s a v with ⟨hr, hw⟩ | ⟨hr, hw⟩ | ⟨hr, hw⟩ | ⟨hr, hw⟩ | ⟨-, hw⟩
  all_goals rw [hw]
  all_goals unfold peek
  · simp only [videoWrite_bootFlag, videoWrite_bootRom, videoWrite_cartRom, videoWrite_wram, videoWrite_zram,
      videoWrite_ppu]
    cases hx : route s.bootFlag x <;> simp only []
    have := hne (by rw [hx, hr])
    simp only [hx, hr, targetIndex] at this
    simpa [videoWrite, RegionShape.readByte, RegionShape.writeByte] using
      Cells.get_set_other _ _ _ _ _ this
  · cases hx : route s.bootFlag x <;> simp only []
    have := hne (by rw [hx, hr])
    simp only [hx, hr, targetIndex, workRegion_index] at this
    simpa [RegionShape.readByte] using Cells.get_set_other _ _ _ _ _ this
  · cases hx : route s.bootFlag x <;> simp only []
    have := hne (by rw [hx, hr])
    simp only [hx, hr, targetIndex, zeroPageRegion_index] at this
    simpa [RegionShape.readByte] using Cells.get_set_other _ _ _ _ _ this
  · cases hx : route s.bootFlag x <;> simp only []
    have := hne (by rw [hx, hr])
    simp only [hx, hr, targetIndex] at this
    exact ppuRegRead_write_other _ _ _ _ this

/-- A byte written to RAM is what every address that names it reads. -/
theorem peek_memWrite_same (s : State) (a x : Word) (v : Byte) (hram : isRam a = true)
    (h : cellOf s.bootFlag x = cellOf s.bootFlag a) : peek (memWrite s a v) x = v := by
  have hr' := (isRam_iff s.bootFlag a).1 hram
  obtain ⟨hx, hi⟩ := Prod.mk.inj h
  rcases memWrite_cases s a v with ⟨hr, hw⟩ | ⟨hr, hw⟩ | ⟨hr, hw⟩ | ⟨hr, hw⟩ | ⟨hr, hw⟩
  · rw [hw]; unfold peek
    rw [hx, hr] at hi
    simp only [videoWrite_bootFlag, hx, hr]
    simp only [targetIndex] at hi
    simp only [videoWrite, RegionShape.readByte, RegionShape.writeByte, videoRegion_index] at hi ⊢
    rw [hi, Nat.mod_mod, Cells.get_set_same]
  · rw [hw]; unfold peek
    rw [hx, hr] at hi
    simp only [hx, hr]
    simp only [targetIndex, workRegion_index] at hi
    simp [RegionShape.readByte, hi, Cells.get_set_same]
  · rw [hw]; unfold peek
    rw [hx, hr] at hi
    simp only [hx, hr]
    simp only [targetIndex, zeroPageRegion_index] at hi
    simp [RegionShape.readByte, hi, Cells.get_set_same]
  · rw [hr] at hr'; simp at hr'
  · rcases hr with hr | hr | hr <;> (rw [hr] at hr'; simp at hr')

/-- A write to ROM or to a stub changes nothing. -/
theorem memWrite_ignored (s : State) (a : Word) (v : Byte) (hram : isRam a = false)
    (hppu : isPpuReg a = false) : memWrite s a v = s := by
  have hppu : ¬(0xFF40 ≤ a.toNat ∧ a.toNat ≤ 0xFF4B) := by simpa only [isPpuReg, decide_eq_false_iff_not] using hppu
  have hr' := mt (isRam_iff s.bootFlag a).2 (by simp [hram])
  rcases memWrite_cases s a v with ⟨hr, hw⟩ | ⟨hr, hw⟩ | ⟨hr, hw⟩ | ⟨hr, hw⟩ | ⟨-, hw⟩
  · exact absurd (.inl hr) hr'
  · exact absurd (.inr (.inl hr)) hr'
  · exact absurd (.inr (.inr hr)) hr'
  · rcases route_cases s.bootFlag a with h | h | h | h | h | h | h | h | h
    · rw [h.2] at hr; split at hr <;> simp at hr
    all_goals first | (exfalso; exact hppu ⟨by omega, by omega⟩) | (rw [hr] at h; simp at h)
  · exact hw

/-- The spec of a byte write. -/
theorem memWrite_storesOneByte (s : State) (a : Word) (v : Byte) : StoresOneByte a v s (memWrite s a v) :=
  ⟨fun x h => peek_memWrite_other s a x v h, fun hr x h => peek_memWrite_same s a x v hr h,
    fun hr hp x => by rw [memWrite_ignored s a v hr hp]⟩

/-! ## The canonical form under a byte write -/

/-- A byte write keeps every store in its canonical form. -/
theorem memWrite_storesWf (s : State) (a : Word) (v : Byte) (h : StoresWf s) : StoresWf (memWrite s a v) := by
  obtain ⟨hb, hc, hv, hw, hz, ht, hp, hf⟩ := h
  rcases memWrite_cases s a v with ⟨-, hm⟩ | ⟨-, hm⟩ | ⟨-, hm⟩ | ⟨-, hm⟩ | ⟨-, hm⟩ <;> rw [hm]
  · refine ⟨hb, hc, ?_, hw, hz, ?_, hp, hf⟩
    · exact Cells.canonical_set _ _ _ _ _ hv (by simp only [videoRegion_index]; simp only [videoRegion]; omega)
    · have ha : a.toNat % 8192 < 8192 := Nat.mod_lt _ (by omega)
      simp only [videoWrite, videoRegion_index, redecodeRow_eq _ _ _ ha]
      refine Cells.canonical_setBlock _ _ _ _ _ ht ?_
      rw [decodeRow_length]; simp [tileCacheSize]; omega
  · exact ⟨hb, hc, hv, Cells.canonical_set _ _ _ _ _ hw (by simp [workRegion]; omega), hz, ht, hp, hf⟩
  · exact ⟨hb, hc, hv, hw, Cells.canonical_set _ _ _ _ _ hz (by simp [zeroPageRegion]; omega), ht, hp, hf⟩
  · exact ⟨hb, hc, hv, hw, hz, ht, hp, hf⟩
  · exact ⟨hb, hc, hv, hw, hz, ht, hp, hf⟩

/-- The contents a region resets to are in canonical form. -/
theorem restore_wf (r : RegionShape) (source : List Byte) : Memory.wf r.size (r.restore source) = true :=
  Cells.canonical_setBlock _ _ _ _ _ rfl (by simp)

/-- The contents a region resets to, byte by byte (20_memory.md R81). -/
theorem restore_get (r : RegionShape) (source : List Byte) (k : Nat) (h : k < r.size) :
    Cells.get unlistedByte (r.restore source) k = source.getD k 0x00#8 := by
  unfold RegionShape.restore
  by_cases hk : k < (source.take r.size).length
  · have := Cells.get_setBlock_inside unlistedByte [] 0 (source.take r.size) k hk
    rw [Nat.zero_add] at this
    rw [this]
    simp [h, unlistedByte]
  · rw [Cells.get_setBlock_outside _ _ _ _ _ (.inr (by omega))]
    have : source.length ≤ k := by simp at hk; omega
    simp [List.getElem?_eq_none this, unlistedByte]

end Sys2Proof.Machine
end

