-- ==== Sys2Proof/Laws/Engine.lean ====
section
/-! SUPPORT. What the engine's shared operations do: a fetch, a Clock tick, a PPU step, a step of the system. One lemma
each, to be cited instead of unfolding the operation. -/

namespace Sys2Proof.Machine

/-- One fetch (00_scope.md R24): the byte at PC, PC past it, the boot flag as the read leaves it. -/
theorem fetch_eq (s : State) :
    fetch s = (peek s s.pc, { s with pc := s.pc + 1#16, bootFlag := s.bootFlag && !(s.pc == 0x0100#16) }) := by
  simp [fetch, memRead_eq]

/-- A fetch changes no byte at or above 0x0100. -/
theorem peek_fetch_of_ge (s : State) (x : Word) (h : 0x100 ≤ x.toNat) : peek (fetch s).2 x = peek s x := by
  rw [fetch_eq]
  exact peek_congr _ _ _ (route_of_ge _ _ _ h) rfl rfl rfl rfl rfl rfl

/-- A fetch anywhere but at 0x0100 changes no byte at all. -/
theorem peek_fetch_of_ne (s : State) (x : Word) (h : s.pc ≠ 0x0100#16) : peek (fetch s).2 x = peek s x := by
  rw [fetch_eq]
  have : (s.pc == 0x0100#16) = false := by simpa using h
  exact peek_congr _ _ _ (by simp [this]) rfl rfl rfl rfl rfl rfl

/-- A tick by a natural number (60_exceptions.md R310). -/
@[simp] theorem tick_natCast (clk : Clock) (n : Nat) : clk.tick (n : Int) = ⟨clk.base + n, clk.fine + 4 * n⟩ := by
  unfold Clock.tick
  split
  · next h =>
    have : n = 0 := by omega
    subst this; rfl
  · simp

/-- A tick keeps the two counters correlated. -/
theorem tick_correlated (clk : Clock) (n : Int) (h : clk.Correlated) : (clk.tick n).Correlated := by
  unfold Clock.tick
  split
  · exact h
  · unfold Clock.Correlated at *; simp only; omega

/-- What a PPU step can do (60_exceptions.md R321): nothing but the tick below the threshold, else the transition of
the mode with the PPU Clock reset. -/
theorem ppuStep_cases (p : Params) (n : Int) (s : State) :
    ((s.ppuClock.tick n).base < threshold s.mode ∧ ppuStep p n s = { s with ppuClock := s.ppuClock.tick n }) ∨
    (threshold s.mode ≤ (s.ppuClock.tick n).base ∧ ppuStep p n s = transition p { s with ppuClock := .zero }) := by
  unfold ppuStep
  dsimp only
  split
  · next h => exact .inl ⟨h, rfl⟩
  · next h => exact .inr ⟨by omega, rfl⟩

/-- What a transition can do (R322, R323, R324, R326). -/
theorem transition_cases (p : Params) (s : State) :
    (s.mode = .oamRead ∧ transition p s = { s with mode := .vramRead }) ∨
    (s.mode = .vramRead ∧ transition p s = { renderScanline p s with mode := .horizontalBlank }) ∨
    (s.mode = .horizontalBlank ∧ s.ppu.ly + 1#8 = 144#8 ∧
      transition p s = { s.setLy (s.ppu.ly + 1#8) with mode := .verticalBlank, frames := s.frames ++ [s.pixels] }) ∨
    (s.mode = .horizontalBlank ∧ s.ppu.ly + 1#8 ≠ 144#8 ∧
      transition p s = { s.setLy (s.ppu.ly + 1#8) with mode := .oamRead }) ∨
    (s.mode = .verticalBlank ∧ s.ppu.ly = 153#8 ∧ transition p s = { s.setLy 0#8 with mode := .oamRead }) ∨
    (s.mode = .verticalBlank ∧ s.ppu.ly ≠ 153#8 ∧ transition p s = s.setLy (s.ppu.ly + 1#8)) := by
  unfold transition
  cases hm : s.mode <;> dsimp only
  · exact .inl ⟨rfl, rfl⟩
  · exact .inr (.inl ⟨rfl, rfl⟩)
  · by_cases h : s.ppu.ly + 1#8 = 144#8
    · exact .inr (.inr (.inl ⟨rfl, h, by unfold leaveHorizontalBlank; exact if_pos h⟩))
    · exact .inr (.inr (.inr (.inl ⟨rfl, h, by unfold leaveHorizontalBlank; exact if_neg h⟩)))
  · by_cases h : s.ppu.ly = 153#8
    · exact .inr (.inr (.inr (.inr (.inl ⟨rfl, h, by unfold leaveVerticalBlank; exact if_pos h⟩))))
    · exact .inr (.inr (.inr (.inr (.inr ⟨rfl, h, by unfold leaveVerticalBlank; exact if_neg h⟩))))

/-- The loop of the renderer yields four bytes a pixel (R331). -/
theorem scanLoop_length (p : Params) (s : State) (rowbase row n : Nat) :
    ∀ col tcol t, (scanLoop p s rowbase row n col tcol t).length = 4 * n := by
  induction n with
  | zero => intros; rfl
  | succ n ih =>
    intro col tcol t
    unfold scanLoop
    simp only [List.length_append]
    split <;> rw [ih] <;> simp <;> omega

/-- A scanline is 640 bytes. -/
@[simp] theorem scanlineBytes_length (p : Params) (s : State) : (scanlineBytes p s).length = 640 := by
  unfold scanlineBytes
  rw [scanLoop_length]
  rfl

/-- Rendering changes nothing but the pixel buffer. -/
theorem renderScanline_frame (p : Params) (s : State) :
    renderScanline p s = { s with pixels := (renderScanline p s).pixels } := by
  unfold renderScanline
  split <;> rfl

/-- A PPU step changes nothing but the PPU Clock, the mode, LY, the pixel buffer and the frames. -/
theorem ppuStep_frame (p : Params) (n : Int) (s : State) :
    ppuStep p n s = { s with
      ppuClock := (ppuStep p n s).ppuClock, mode := (ppuStep p n s).mode, pixels := (ppuStep p n s).pixels
      frames := (ppuStep p n s).frames, ppu := { s.ppu with ly := (ppuStep p n s).ppu.ly } } := by
  rcases ppuStep_cases p n s with ⟨_, h⟩ | ⟨_, h⟩ <;> rw [h]
  rcases transition_cases p { s with ppuClock := .zero } with
    ⟨_, h⟩ | ⟨_, h⟩ | ⟨_, _, h⟩ | ⟨_, _, h⟩ | ⟨_, _, h⟩ | ⟨_, _, h⟩ <;> rw [h]
  · rw [renderScanline_frame]
  all_goals rfl

/-- What a step can do (40_execution.md R162, R166, R167): nothing when stopped, the decode error, or one instruction and
the clocking after it. -/
theorem stepWith_cases (p : Params) (s : State) :
    (s.stopped = true ∧ stepWith p s = .next s) ∨
    (s.stopped = false ∧ ∃ sp op s1, fetchInstr p.implSet s = .undefinedOpcode sp op s1 ∧
      stepWith p s = .next (raiseDecodeError sp op s1)) ∨
    (s.stopped = false ∧ ∃ i s1, fetchInstr p.implSet s = .instr i s1 ∧
      stepWith p s =
        match exec i s1 with
        | .next s2 => .next (afterHandler p (handlerCost p i s1) s2)
        | .fault r => .fault r
        | .refused r => .refused r) := by
  unfold stepWith
  cases hs : s.stopped
  · cases hf : fetchInstr p.implSet s with
    | instr i s1 => exact .inr (.inr ⟨rfl, i, s1, rfl, rfl⟩)
    | undefinedOpcode sp op s1 => exact .inr (.inl ⟨rfl, sp, op, s1, rfl, by simp⟩)
  · exact .inl ⟨rfl, by simp⟩

end Sys2Proof.Machine
end

