-- ==== Sys2Proof/Laws/Exec.lean ====
section
/-! SUPPORT. What a handler can do, said once: it writes registers, builds F from four flag bits, reads and writes memory
through the MMU, and nothing else (40_execution.md R174). A property that those operations keep is kept by every
instruction. -/

namespace Sys2Proof.Machine

/-- The property is kept by every operation a handler is made of. -/
structure Stable (P : State → Prop) : Prop where
  reg8 : ∀ s r v, P s → P (s.setReg8 r v)
  pair : ∀ s q v, P s → P (s.setPair q v)
  pc : ∀ (s : State) v, P s → P { s with pc := v }
  sp : ∀ (s : State) v, P s → P { s with sp := v }
  flags : ∀ (s : State) z n h c, P s → P { s with f := packFlags z n h c }
  read : ∀ s a, P s → P (memRead s a).2
  write : ∀ s a v, P s → P (memWrite s a v)

namespace Stable

variable {P : State → Prop} (hP : Stable P) {s t : State}

include hP

theorem setReg16 (r : Reg16) (v : Word) (h : P s) : P (s.setReg16 r v) := by
  cases r
  · exact hP.pair _ .bc _ h
  · exact hP.pair _ .de _ h
  · exact hP.pair _ .hl _ h
  · exact hP.sp _ _ h

theorem fetch (h : P s) : P (fetch s).2 := hP.pc _ _ (hP.read _ _ h)

theorem loadImm (r : Reg8) (n : Byte) (h : P s) (he : loadImm r n s = .next t) : P t := by
  cases he; exact hP.reg8 _ _ _ h

theorem storeImmAtHl (n : Byte) (h : P s) (he : storeImmAtHl n s = .next t) : P t := by
  cases he; exact hP.write _ _ _ h

theorem loadImm16 (r : Reg16) (nn : Word) (h : P s) (he : loadImm16 r nn s = .next t) : P t := by
  cases he; exact hP.setReg16 _ _ h

theorem storeAAt (addr : Word) (h : P s) (he : storeAAt addr s = .next t) : P t := by
  cases he; exact hP.write _ _ _ h

theorem loadAFrom (addr : Word) (h : P s) (he : loadAFrom addr s = .next t) : P t := by
  cases he; exact hP.reg8 _ _ _ (hP.read _ _ h)

theorem storeAAtHlThenMove (moved : Word) (h : P s) (he : storeAAtHlThenMove moved s = .next t) : P t := by
  cases he; exact hP.pair _ _ _ (hP.write _ _ _ h)

theorem loadAFromHlThenMove (moved : Word) (h : P s) (he : loadAFromHlThenMove moved s = .next t) : P t := by
  cases he; exact hP.pair _ _ _ (hP.reg8 _ _ _ (hP.read _ _ h))

theorem loadFromHl (r : Reg8) (h : P s) (he : loadFromHl r s = .next t) : P t := by
  cases he; exact hP.reg8 _ _ _ (hP.read _ _ h)

theorem storeAtHl (r : Reg8) (h : P s) (he : storeAtHl r s = .next t) : P t := by
  cases he; exact hP.write _ _ _ h

theorem copyReg (dst src : Reg8) (h : P s) (he : copyReg dst src s = .next t) : P t := by
  cases he; exact hP.reg8 _ _ _ h

theorem incReg8 (r : Reg8) (h : P s) (he : incReg8 r s = .next t) : P t := by
  cases he; exact hP.reg8 _ _ _ (hP.flags _ _ _ _ _ h)

theorem decReg8 (r : Reg8) (h : P s) (he : decReg8 r s = .next t) : P t := by
  cases he; exact hP.reg8 _ _ _ (hP.flags _ _ _ _ _ h)

theorem incReg16 (r : Reg16) (h : P s) (he : incReg16 r s = .next t) : P t := by
  cases he; exact hP.setReg16 _ _ h

theorem decReg16 (r : Reg16) (h : P s) (he : decReg16 r s = .next t) : P t := by
  cases he; exact hP.setReg16 _ _ h

theorem addByte (v : Byte) (h : P s) (he : addByte v s = .next t) : P t := by
  cases he; exact hP.flags _ _ _ _ _ (hP.reg8 _ .a _ h)

theorem subByte (v : Byte) (h : P s) (he : subByte v s = .next t) : P t := by
  cases he; exact hP.flags _ _ _ _ _ (hP.reg8 _ .a _ h)

theorem compareByte (v : Byte) (h : P s) (he : compareByte v s = .next t) : P t := by
  cases he; exact hP.flags _ _ _ _ _ h

theorem addAtHl (h : P s) (he : addAtHl s = .next t) : P t := hP.addByte _ (hP.read _ _ h) he

theorem subAtHl (h : P s) (he : subAtHl s = .next t) : P t := hP.subByte _ (hP.read _ _ h) he

theorem compareAtHl (h : P s) (he : compareAtHl s = .next t) : P t := hP.compareByte _ (hP.read _ _ h) he

theorem clearA (h : P s) (he : clearA s = .next t) : P t := by
  cases he; exact hP.flags _ _ _ _ _ (hP.reg8 _ .a _ h)

theorem rotateReg (r : Reg8) (h : P s) (he : rotateReg r s = .next t) : P t := by
  cases he; exact hP.reg8 _ _ _ (hP.flags _ _ _ _ _ h)

theorem testRegBit (k : Nat) (r : Reg8) (h : P s) (he : testRegBit k r s = .next t) : P t := by
  cases he; exact hP.flags _ _ _ _ _ h

theorem testBitAtHl (k : Nat) (h : P s) (he : testBitAtHl k s = .next t) : P t := by
  cases he; exact hP.flags _ _ _ _ _ (hP.read _ _ h)

theorem jumpRelIf (cond : Bool) (e : Byte) (h : P s) (he : jumpRelIf cond e s = .next t) : P t := by
  cases he
  cases cond
  · exact h
  · exact hP.pc _ _ h

theorem callTo (target : Word) (h : P s) (he : callTo target s = .next t) : P t := by
  cases he; exact hP.pc _ _ (hP.write _ _ _ (hP.write _ _ _ (hP.sp _ _ h)))

theorem returnToCaller (h : P s) (he : returnToCaller s = .next t) : P t := by
  cases he
  have h2 : P (memRead16 s s.sp).2 := hP.read _ _ (hP.read _ _ h)
  exact hP.sp _ ((memRead16 s s.sp).2.sp + 2#16) (hP.pc _ (memRead16 s s.sp).1 h2)

theorem pushPair (q : Pair) (h : P s) (he : pushPair q s = .next t) : P t := by
  cases he; exact hP.write _ _ _ (hP.sp _ _ (hP.write _ _ _ (hP.sp _ _ h)))

theorem popPair (q : Pair) (h : P s) (he : popPair q s = .next t) : P t := by
  cases he; exact hP.pair _ _ _ (hP.sp _ _ (hP.read _ _ (hP.sp _ _ (hP.read _ _ h))))

/-- Every instruction keeps the property. -/
theorem exec (i : Instr) (h : P s) (he : exec i s = .next t) : P t := by
  cases i
  case ldBImm => exact hP.loadImm (h := h) (he := he)
  case ldCImm => exact hP.loadImm (h := h) (he := he)
  case ldDImm => exact hP.loadImm (h := h) (he := he)
  case ldEImm => exact hP.loadImm (h := h) (he := he)
  case ldHImm => exact hP.loadImm (h := h) (he := he)
  case ldLImm => exact hP.loadImm (h := h) (he := he)
  case ldAtHlImm => exact hP.storeImmAtHl (h := h) (he := he)
  case ldAImm => exact hP.loadImm (h := h) (he := he)
  case ldBcImm => exact hP.loadImm16 (h := h) (he := he)
  case ldDeImm => exact hP.loadImm16 (h := h) (he := he)
  case ldHlImm => exact hP.loadImm16 (h := h) (he := he)
  case ldSpImm => exact hP.loadImm16 (h := h) (he := he)
  case ldAtBcA => exact hP.storeAAt (h := h) (he := he)
  case ldAtDeA => exact hP.storeAAt (h := h) (he := he)
  case ldAAtBc => exact hP.loadAFrom (h := h) (he := he)
  case ldAAtDe => exact hP.loadAFrom (h := h) (he := he)
  case ldAtHlIncA => exact hP.storeAAtHlThenMove (h := h) (he := he)
  case ldAAtHlInc => exact hP.loadAFromHlThenMove (h := h) (he := he)
  case ldAtHlDecA => exact hP.storeAAtHlThenMove (h := h) (he := he)
  case ldAAtHlDec => exact hP.loadAFromHlThenMove (h := h) (he := he)
  case ldBAtHl => exact hP.loadFromHl (h := h) (he := he)
  case ldCAtHl => exact hP.loadFromHl (h := h) (he := he)
  case ldDAtHl => exact hP.loadFromHl (h := h) (he := he)
  case ldEAtHl => exact hP.loadFromHl (h := h) (he := he)
  case ldHAtHl => exact hP.loadFromHl (h := h) (he := he)
  case ldLAtHl => exact hP.loadFromHl (h := h) (he := he)
  case ldAAtHl => exact hP.loadFromHl (h := h) (he := he)
  case ldAtHlB => exact hP.storeAtHl (h := h) (he := he)
  case ldAtHlC => exact hP.storeAtHl (h := h) (he := he)
  case ldAtHlD => exact hP.storeAtHl (h := h) (he := he)
  case ldAtHlE => exact hP.storeAtHl (h := h) (he := he)
  case ldAtHlH => exact hP.storeAtHl (h := h) (he := he)
  case ldAtHlL => exact hP.storeAtHl (h := h) (he := he)
  case ldAtHlA => exact hP.storeAtHl (h := h) (he := he)
  case ldBB => exact hP.copyReg (h := h) (he := he)
  case ldBC => exact hP.copyReg (h := h) (he := he)
  case ldBD => exact hP.copyReg (h := h) (he := he)
  case ldBE => exact hP.copyReg (h := h) (he := he)
  case ldBH => exact hP.copyReg (h := h) (he := he)
  case ldBL => exact hP.copyReg (h := h) (he := he)
  case ldBA => exact hP.copyReg (h := h) (he := he)
  case ldCB => exact hP.copyReg (h := h) (he := he)
  case ldCC => exact hP.copyReg (h := h) (he := he)
  case ldCD => exact hP.copyReg (h := h) (he := he)
  case ldCE => exact hP.copyReg (h := h) (he := he)
  case ldCH => exact hP.copyReg (h := h) (he := he)
  case ldCL => exact hP.copyReg (h := h) (he := he)
  case ldCA => exact hP.copyReg (h := h) (he := he)
  case ldDB => exact hP.copyReg (h := h) (he := he)
  case ldDC => exact hP.copyReg (h := h) (he := he)
  case ldDD => exact hP.copyReg (h := h) (he := he)
  case ldDE => exact hP.copyReg (h := h) (he := he)
  case ldDH => exact hP.copyReg (h := h) (he := he)
  case ldDL => exact hP.copyReg (h := h) (he := he)
  case ldDA => exact hP.copyReg (h := h) (he := he)
  case ldEB => exact hP.copyReg (h := h) (he := he)
  case ldEC => exact hP.copyReg (h := h) (he := he)
  case ldED => exact hP.copyReg (h := h) (he := he)
  case ldEE => exact hP.copyReg (h := h) (he := he)
  case ldEH => exact hP.copyReg (h := h) (he := he)
  case ldEL => exact hP.copyReg (h := h) (he := he)
  case ldEA => exact hP.copyReg (h := h) (he := he)
  case ldHB => exact hP.copyReg (h := h) (he := he)
  case ldHC => exact hP.copyReg (h := h) (he := he)
  case ldHD => exact hP.copyReg (h := h) (he := he)
  case ldHE => exact hP.copyReg (h := h) (he := he)
  case ldHH => exact hP.copyReg (h := h) (he := he)
  case ldHL => exact hP.copyReg (h := h) (he := he)
  case ldHA => exact hP.copyReg (h := h) (he := he)
  case ldLB => exact hP.copyReg (h := h) (he := he)
  case ldLC => exact hP.copyReg (h := h) (he := he)
  case ldLD => exact hP.copyReg (h := h) (he := he)
  case ldLE => exact hP.copyReg (h := h) (he := he)
  case ldLH => exact hP.copyReg (h := h) (he := he)
  case ldLL => exact hP.copyReg (h := h) (he := he)
  case ldLA => exact hP.copyReg (h := h) (he := he)
  case ldAB => exact hP.copyReg (h := h) (he := he)
  case ldAC => exact hP.copyReg (h := h) (he := he)
  case ldAD => exact hP.copyReg (h := h) (he := he)
  case ldAE => exact hP.copyReg (h := h) (he := he)
  case ldAH => exact hP.copyReg (h := h) (he := he)
  case ldAL => exact hP.copyReg (h := h) (he := he)
  case ldAA => exact hP.copyReg (h := h) (he := he)
  case incB => exact hP.incReg8 (h := h) (he := he)
  case incC => exact hP.incReg8 (h := h) (he := he)
  case incD => exact hP.incReg8 (h := h) (he := he)
  case incE => exact hP.incReg8 (h := h) (he := he)
  case incH => exact hP.incReg8 (h := h) (he := he)
  case incL => exact hP.incReg8 (h := h) (he := he)
  case incA => exact hP.incReg8 (h := h) (he := he)
  case decB => exact hP.decReg8 (h := h) (he := he)
  case decC => exact hP.decReg8 (h := h) (he := he)
  case decD => exact hP.decReg8 (h := h) (he := he)
  case decE => exact hP.decReg8 (h := h) (he := he)
  case decH => exact hP.decReg8 (h := h) (he := he)
  case decL => exact hP.decReg8 (h := h) (he := he)
  case decA => exact hP.decReg8 (h := h) (he := he)
  case incBc => exact hP.incReg16 (h := h) (he := he)
  case incDe => exact hP.incReg16 (h := h) (he := he)
  case incHl => exact hP.incReg16 (h := h) (he := he)
  case incSp => exact hP.incReg16 (h := h) (he := he)
  case decSp => exact hP.decReg16 (h := h) (he := he)
  case addB => exact hP.addByte (h := h) (he := he)
  case addC => exact hP.addByte (h := h) (he := he)
  case addD => exact hP.addByte (h := h) (he := he)
  case addE => exact hP.addByte (h := h) (he := he)
  case addH => exact hP.addByte (h := h) (he := he)
  case addL => exact hP.addByte (h := h) (he := he)
  case addAtHl => exact hP.addAtHl (h := h) (he := he)
  case addA => exact hP.addByte (h := h) (he := he)
  case addImm => exact hP.addByte (h := h) (he := he)
  case subB => exact hP.subByte (h := h) (he := he)
  case subC => exact hP.subByte (h := h) (he := he)
  case subD => exact hP.subByte (h := h) (he := he)
  case subE => exact hP.subByte (h := h) (he := he)
  case subH => exact hP.subByte (h := h) (he := he)
  case subL => exact hP.subByte (h := h) (he := he)
  case subAtHl => exact hP.subAtHl (h := h) (he := he)
  case subA => exact hP.subByte (h := h) (he := he)
  case subImm => exact hP.subByte (h := h) (he := he)
  case cpB => exact hP.compareByte (h := h) (he := he)
  case cpC => exact hP.compareByte (h := h) (he := he)
  case cpD => exact hP.compareByte (h := h) (he := he)
  case cpE => exact hP.compareByte (h := h) (he := he)
  case cpH => exact hP.compareByte (h := h) (he := he)
  case cpL => exact hP.compareByte (h := h) (he := he)
  case cpAtHl => exact hP.compareAtHl (h := h) (he := he)
  case cpA => exact hP.compareByte (h := h) (he := he)
  case cpImm => exact hP.compareByte (h := h) (he := he)
  case xorA => exact hP.clearA (h := h) (he := he)
  case rla => exact hP.rotateReg (h := h) (he := he)
  case jr => exact hP.jumpRelIf (h := h) (he := he)
  case jrNz => exact hP.jumpRelIf (h := h) (he := he)
  case jrZ => exact hP.jumpRelIf (h := h) (he := he)
  case call => exact hP.callTo (h := h) (he := he)
  case rst38 => exact hP.callTo (h := h) (he := he)
  case ret => exact hP.returnToCaller (h := h) (he := he)
  case pushBc => exact hP.pushPair (h := h) (he := he)
  case pushDe => exact hP.pushPair (h := h) (he := he)
  case pushHl => exact hP.pushPair (h := h) (he := he)
  case popBc => exact hP.popPair (h := h) (he := he)
  case popDe => exact hP.popPair (h := h) (he := he)
  case popHl => exact hP.popPair (h := h) (he := he)
  case ldhAtImmA => exact hP.storeAAt (h := h) (he := he)
  case ldhAAtImm => exact hP.loadAFrom (h := h) (he := he)
  case ldAtCA => exact hP.storeAAt (h := h) (he := he)
  case ldAAtC => exact hP.loadAFrom (h := h) (he := he)
  case ldAtImmA => exact hP.storeAAt (h := h) (he := he)
  case ldAAtImm => exact hP.loadAFrom (h := h) (he := he)
  case rlB => exact hP.rotateReg (h := h) (he := he)
  case rlC => exact hP.rotateReg (h := h) (he := he)
  case rlD => exact hP.rotateReg (h := h) (he := he)
  case rlE => exact hP.rotateReg (h := h) (he := he)
  case rlH => exact hP.rotateReg (h := h) (he := he)
  case rlL => exact hP.rotateReg (h := h) (he := he)
  case rlA => exact hP.rotateReg (h := h) (he := he)
  case bit0B => exact hP.testRegBit (h := h) (he := he)
  case bit0C => exact hP.testRegBit (h := h) (he := he)
  case bit0D => exact hP.testRegBit (h := h) (he := he)
  case bit0E => exact hP.testRegBit (h := h) (he := he)
  case bit0H => exact hP.testRegBit (h := h) (he := he)
  case bit0L => exact hP.testRegBit (h := h) (he := he)
  case bit0AtHl => exact hP.testBitAtHl (h := h) (he := he)
  case bit0A => exact hP.testRegBit (h := h) (he := he)
  case bit1B => exact hP.testRegBit (h := h) (he := he)
  case bit1C => exact hP.testRegBit (h := h) (he := he)
  case bit1D => exact hP.testRegBit (h := h) (he := he)
  case bit1E => exact hP.testRegBit (h := h) (he := he)
  case bit1H => exact hP.testRegBit (h := h) (he := he)
  case bit1L => exact hP.testRegBit (h := h) (he := he)
  case bit1AtHl => exact hP.testBitAtHl (h := h) (he := he)
  case bit1A => exact hP.testRegBit (h := h) (he := he)
  case bit2B => exact hP.testRegBit (h := h) (he := he)
  case bit2C => exact hP.testRegBit (h := h) (he := he)
  case bit2D => exact hP.testRegBit (h := h) (he := he)
  case bit2E => exact hP.testRegBit (h := h) (he := he)
  case bit2H => exact hP.testRegBit (h := h) (he := he)
  case bit2L => exact hP.testRegBit (h := h) (he := he)
  case bit2AtHl => exact hP.testBitAtHl (h := h) (he := he)
  case bit2A => exact hP.testRegBit (h := h) (he := he)
  case bit3B => exact hP.testRegBit (h := h) (he := he)
  case bit3C => exact hP.testRegBit (h := h) (he := he)
  case bit3D => exact hP.testRegBit (h := h) (he := he)
  case bit3E => exact hP.testRegBit (h := h) (he := he)
  case bit3H => exact hP.testRegBit (h := h) (he := he)
  case bit3L => exact hP.testRegBit (h := h) (he := he)
  case bit3AtHl => exact hP.testBitAtHl (h := h) (he := he)
  case bit3A => exact hP.testRegBit (h := h) (he := he)
  case bit4B => exact hP.testRegBit (h := h) (he := he)
  case bit4C => exact hP.testRegBit (h := h) (he := he)
  case bit4D => exact hP.testRegBit (h := h) (he := he)
  case bit4E => exact hP.testRegBit (h := h) (he := he)
  case bit4H => exact hP.testRegBit (h := h) (he := he)
  case bit4L => exact hP.testRegBit (h := h) (he := he)
  case bit4AtHl => exact hP.testBitAtHl (h := h) (he := he)
  case bit4A => exact hP.testRegBit (h := h) (he := he)
  case bit5B => exact hP.testRegBit (h := h) (he := he)
  case bit5C => exact hP.testRegBit (h := h) (he := he)
  case bit5D => exact hP.testRegBit (h := h) (he := he)
  case bit5E => exact hP.testRegBit (h := h) (he := he)
  case bit5H => exact hP.testRegBit (h := h) (he := he)
  case bit5L => exact hP.testRegBit (h := h) (he := he)
  case bit5AtHl => exact hP.testBitAtHl (h := h) (he := he)
  case bit5A => exact hP.testRegBit (h := h) (he := he)
  case bit6B => exact hP.testRegBit (h := h) (he := he)
  case bit6C => exact hP.testRegBit (h := h) (he := he)
  case bit6D => exact hP.testRegBit (h := h) (he := he)
  case bit6E => exact hP.testRegBit (h := h) (he := he)
  case bit6H => exact hP.testRegBit (h := h) (he := he)
  case bit6L => exact hP.testRegBit (h := h) (he := he)
  case bit6AtHl => exact hP.testBitAtHl (h := h) (he := he)
  case bit6A => exact hP.testRegBit (h := h) (he := he)
  case bit7B => exact hP.testRegBit (h := h) (he := he)
  case bit7C => exact hP.testRegBit (h := h) (he := he)
  case bit7D => exact hP.testRegBit (h := h) (he := he)
  case bit7E => exact hP.testRegBit (h := h) (he := he)
  case bit7H => exact hP.testRegBit (h := h) (he := he)
  case bit7L => exact hP.testRegBit (h := h) (he := he)
  case bit7AtHl => exact hP.testBitAtHl (h := h) (he := he)
  case bit7A => exact hP.testRegBit (h := h) (he := he)

/-- So do the fetches of a step, whatever they find. -/
theorem dispatch (impl : ImplSet) (sp : Space) (op : Byte) (h : P s) :
    (∀ i s1, Machine.dispatch impl sp op s = .instr i s1 → P s1) ∧
    (∀ sp' op' s1, Machine.dispatch impl sp op s = .undefinedOpcode sp' op' s1 → P s1) := by
  unfold Machine.dispatch
  cases lookupIn impl sp op with
  | none => exact ⟨fun _ _ he => (nomatch he), fun _ _ _ he => by cases he; exact h⟩
  | some form =>
    refine ⟨fun i s1 he => ?_, fun _ _ _ he => (nomatch he)⟩
    cases form <;> cases he
    · exact h
    · exact hP.fetch h
    · exact hP.fetch (hP.fetch h)

theorem fetchInstr (impl : ImplSet) (h : P s) :
    (∀ i s1, Machine.fetchInstr impl s = .instr i s1 → P s1) ∧
    (∀ sp op s1, Machine.fetchInstr impl s = .undefinedOpcode sp op s1 → P s1) := by
  unfold Machine.fetchInstr
  dsimp only
  split
  · exact hP.dispatch _ _ _ (hP.fetch (hP.fetch h))
  · exact hP.dispatch _ _ _ (hP.fetch h)

end Stable

end Sys2Proof.Machine
end

