-- ==== Sys2Proof/Laws/Host.lean ====
section
/-! SUPPORT. What the loop of RunFrame can do (40_execution.md R170), and what a host reads. -/

namespace Sys2Proof.Machine

theorem frameOver_iff (target : Nat) (s : State) :
    frameOver target s = true ↔ s.stopped = true ∨ target ≤ s.cpuClock.base := by
  simp [frameOver]

theorem runTo_over {p : Params} {target limit : Nat} {s : State} (h : frameOver target s = true) :
    runTo p target limit s = some (.next s) := by
  unfold runTo; exact if_pos h

@[simp] theorem runTo_zero {p : Params} {target : Nat} {s : State} (h : frameOver target s = false) :
    runTo p target 0 s = none := by
  unfold runTo; simp [h]

theorem runTo_succ {p : Params} {target limit : Nat} {s t : State} (h : frameOver target s = false)
    (hs : stepWith p s = .next t) : runTo p target (limit + 1) s = runTo p target limit t := by
  rw [runTo]; simp [h, hs]

/-- The loop answers a next state where it is over at once, or after one step and the loop from there. -/
theorem runTo_next_cases {p : Params} {target limit : Nat} {s t : State} (h : runTo p target limit s = some (.next t)) :
    (frameOver target s = true ∧ t = s) ∨
    ∃ n u, limit = n + 1 ∧ frameOver target s = false ∧ stepWith p s = .next u ∧ runTo p target n u = some (.next t) := by
  cases ho : frameOver target s
  · cases limit with
    | zero => rw [runTo_zero ho] at h; cases h
    | succ n =>
      cases hs : stepWith p s with
      | next u => exact .inr ⟨n, u, rfl, rfl, rfl, by rw [← runTo_succ ho hs]; exact h⟩
      | fault r => rw [runTo] at h; simp [ho, hs] at h
      | refused r => rw [runTo] at h; simp [ho, hs] at h
  · rw [runTo_over ho] at h; cases h; exact .inl ⟨rfl, rfl⟩

/-- The state the loop answers is one at which it is over. -/
theorem runTo_next_over {p : Params} {target : Nat} {t : State} :
    ∀ {limit : Nat} {s : State}, runTo p target limit s = some (.next t) → frameOver target t = true := by
  intro limit
  induction limit with
  | zero =>
    intro s h
    rcases runTo_next_cases h with ⟨ho, rfl⟩ | ⟨_, _, hl, _⟩
    · exact ho
    · cases hl
  | succ n ih =>
    intro s h
    rcases runTo_next_cases h with ⟨ho, rfl⟩ | ⟨_, _, hl, _, _, hr⟩
    · exact ho
    · cases hl; exact ih hr

/-- A property every step keeps is kept by the loop. -/
theorem runTo_keeps {P : State → Prop} {p : Params} (hP : ∀ s t, P s → stepWith p s = .next t → P t) {target : Nat} {t : State} :
    ∀ {limit : Nat} {s : State}, P s → runTo p target limit s = some (.next t) → P t := by
  intro limit
  induction limit with
  | zero =>
    intro s hs h
    rcases runTo_next_cases h with ⟨_, rfl⟩ | ⟨_, _, hl, _⟩
    · exact hs
    · cases hl
  | succ n ih =>
    intro s hs h
    rcases runTo_next_cases h with ⟨_, rfl⟩ | ⟨_, u, hl, _, hu, hr⟩
    · exact hs
    · cases hl; exact ih (hP _ _ hs hu) hr

/-- An answer stays the answer when the loop is followed for longer. -/
theorem runTo_limit_le {p : Params} {target : Nat} {r : Result} :
    ∀ {limit limit' : Nat} {s : State}, limit ≤ limit' → runTo p target limit s = some r → runTo p target limit' s = some r := by
  intro limit
  induction limit with
  | zero =>
    intro limit' s _ h
    cases ho : frameOver target s
    · rw [runTo_zero ho] at h; cases h
    · rw [runTo_over ho] at h ⊢; exact h
  | succ n ih =>
    intro limit' s hl h
    cases ho : frameOver target s
    · obtain ⟨n', rfl⟩ : ∃ n', limit' = n' + 1 := ⟨limit' - 1, by omega⟩
      rw [runTo] at h ⊢
      simp only [ho, Bool.false_eq_true, if_false] at h ⊢
      cases hs : stepWith p s with
      | next u => rw [hs] at h; exact ih (by omega) h
      | fault e => rw [hs] at h; exact h
      | refused e => rw [hs] at h; exact h
    · rw [runTo_over ho] at h ⊢; exact h

/-- A frame has 92,160 bytes (10_state.md R66). -/
@[simp] theorem flatBytes_length (m : Memory) : (flatBytes m).length = 92160 := by
  simp [flatBytes, pixelBufferSize, screenW, screenH]

end Sys2Proof.Machine
end

