-- ==== Sys2Proof/Laws/PerInstr.lean ====
section
/-! SUPPORT. Statements made per instruction. OpcodeRow: the opcode table's row for the instruction's opcode builds the
instruction back from its operand bytes (30_encoding.md R145, R146). -/

namespace Sys2Proof.Laws.OpcodeRow

/-- The instruction a form builds from the operand bytes, if there are as many as it takes. -/
def build : Form → List Byte → Option Instr
  | .op i, [] => some i
  | .d8 k, [n] => some (k n)
  | .d16 k, [lo, hi] => some (k (wordOf hi lo))
  | _, _ => none

/-- The operand bytes of an instruction: what its encoding holds after the opcode byte or bytes. -/
def operandBytes (i : Instr) : List Byte :=
  match i.opcode.1 with
  | .primary => (encode i).drop 1
  | .extended => (encode i).drop 2

/-- The row of `i`'s opcode, given `i`'s operand bytes, builds `i`. -/
def Statement (i : Instr) : Prop :=
  ∃ form, lookup i.opcode.1 i.opcode.2 = some form ∧ build form (operandBytes i) = some i

theorem of_op (i : Instr) (h : lookup i.opcode.1 i.opcode.2 = some (.op i)) (hb : operandBytes i = []) : Statement i :=
  ⟨_, h, by rw [hb]; rfl⟩

theorem of_d8 (k : Byte → Instr) (n : Byte) (h : lookup (k n).opcode.1 (k n).opcode.2 = some (.d8 k))
    (hb : operandBytes (k n) = [n]) : Statement (k n) :=
  ⟨_, h, by rw [hb]; rfl⟩

theorem of_d16 (k : Word → Instr) (nn : Word) (h : lookup (k nn).opcode.1 (k nn).opcode.2 = some (.d16 k))
    (hb : operandBytes (k nn) = [loByte nn, hiByte nn]) : Statement (k nn) :=
  ⟨_, h, by rw [hb]; simp [build]⟩

theorem ldBImm (n : Byte) : Statement (.ldBImm n) := of_d8 Instr.ldBImm n rfl rfl
theorem ldCImm (n : Byte) : Statement (.ldCImm n) := of_d8 Instr.ldCImm n rfl rfl
theorem ldDImm (n : Byte) : Statement (.ldDImm n) := of_d8 Instr.ldDImm n rfl rfl
theorem ldEImm (n : Byte) : Statement (.ldEImm n) := of_d8 Instr.ldEImm n rfl rfl
theorem ldHImm (n : Byte) : Statement (.ldHImm n) := of_d8 Instr.ldHImm n rfl rfl
theorem ldLImm (n : Byte) : Statement (.ldLImm n) := of_d8 Instr.ldLImm n rfl rfl
theorem ldAtHlImm (n : Byte) : Statement (.ldAtHlImm n) := of_d8 Instr.ldAtHlImm n rfl rfl
theorem ldAImm (n : Byte) : Statement (.ldAImm n) := of_d8 Instr.ldAImm n rfl rfl
theorem ldBcImm (nn : Word) : Statement (.ldBcImm nn) := of_d16 Instr.ldBcImm nn rfl rfl
theorem ldDeImm (nn : Word) : Statement (.ldDeImm nn) := of_d16 Instr.ldDeImm nn rfl rfl
theorem ldHlImm (nn : Word) : Statement (.ldHlImm nn) := of_d16 Instr.ldHlImm nn rfl rfl
theorem ldSpImm (nn : Word) : Statement (.ldSpImm nn) := of_d16 Instr.ldSpImm nn rfl rfl
theorem ldAtBcA : Statement (.ldAtBcA) := of_op _ rfl rfl
theorem ldAtDeA : Statement (.ldAtDeA) := of_op _ rfl rfl
theorem ldAAtBc : Statement (.ldAAtBc) := of_op _ rfl rfl
theorem ldAAtDe : Statement (.ldAAtDe) := of_op _ rfl rfl
theorem ldAtHlIncA : Statement (.ldAtHlIncA) := of_op _ rfl rfl
theorem ldAAtHlInc : Statement (.ldAAtHlInc) := of_op _ rfl rfl
theorem ldAtHlDecA : Statement (.ldAtHlDecA) := of_op _ rfl rfl
theorem ldAAtHlDec : Statement (.ldAAtHlDec) := of_op _ rfl rfl
theorem ldBAtHl : Statement (.ldBAtHl) := of_op _ rfl rfl
theorem ldCAtHl : Statement (.ldCAtHl) := of_op _ rfl rfl
theorem ldDAtHl : Statement (.ldDAtHl) := of_op _ rfl rfl
theorem ldEAtHl : Statement (.ldEAtHl) := of_op _ rfl rfl
theorem ldHAtHl : Statement (.ldHAtHl) := of_op _ rfl rfl
theorem ldLAtHl : Statement (.ldLAtHl) := of_op _ rfl rfl
theorem ldAAtHl : Statement (.ldAAtHl) := of_op _ rfl rfl
theorem ldAtHlB : Statement (.ldAtHlB) := of_op _ rfl rfl
theorem ldAtHlC : Statement (.ldAtHlC) := of_op _ rfl rfl
theorem ldAtHlD : Statement (.ldAtHlD) := of_op _ rfl rfl
theorem ldAtHlE : Statement (.ldAtHlE) := of_op _ rfl rfl
theorem ldAtHlH : Statement (.ldAtHlH) := of_op _ rfl rfl
theorem ldAtHlL : Statement (.ldAtHlL) := of_op _ rfl rfl
theorem ldAtHlA : Statement (.ldAtHlA) := of_op _ rfl rfl
theorem ldBB : Statement (.ldBB) := of_op _ rfl rfl
theorem ldBC : Statement (.ldBC) := of_op _ rfl rfl
theorem ldBD : Statement (.ldBD) := of_op _ rfl rfl
theorem ldBE : Statement (.ldBE) := of_op _ rfl rfl
theorem ldBH : Statement (.ldBH) := of_op _ rfl rfl
theorem ldBL : Statement (.ldBL) := of_op _ rfl rfl
theorem ldBA : Statement (.ldBA) := of_op _ rfl rfl
theorem ldCB : Statement (.ldCB) := of_op _ rfl rfl
theorem ldCC : Statement (.ldCC) := of_op _ rfl rfl
theorem ldCD : Statement (.ldCD) := of_op _ rfl rfl
theorem ldCE : Statement (.ldCE) := of_op _ rfl rfl
theorem ldCH : Statement (.ldCH) := of_op _ rfl rfl
theorem ldCL : Statement (.ldCL) := of_op _ rfl rfl
theorem ldCA : Statement (.ldCA) := of_op _ rfl rfl
theorem ldDB : Statement (.ldDB) := of_op _ rfl rfl
theorem ldDC : Statement (.ldDC) := of_op _ rfl rfl
theorem ldDD : Statement (.ldDD) := of_op _ rfl rfl
theorem ldDE : Statement (.ldDE) := of_op _ rfl rfl
theorem ldDH : Statement (.ldDH) := of_op _ rfl rfl
theorem ldDL : Statement (.ldDL) := of_op _ rfl rfl
theorem ldDA : Statement (.ldDA) := of_op _ rfl rfl
theorem ldEB : Statement (.ldEB) := of_op _ rfl rfl
theorem ldEC : Statement (.ldEC) := of_op _ rfl rfl
theorem ldED : Statement (.ldED) := of_op _ rfl rfl
theorem ldEE : Statement (.ldEE) := of_op _ rfl rfl
theorem ldEH : Statement (.ldEH) := of_op _ rfl rfl
theorem ldEL : Statement (.ldEL) := of_op _ rfl rfl
theorem ldEA : Statement (.ldEA) := of_op _ rfl rfl
theorem ldHB : Statement (.ldHB) := of_op _ rfl rfl
theorem ldHC : Statement (.ldHC) := of_op _ rfl rfl
theorem ldHD : Statement (.ldHD) := of_op _ rfl rfl
theorem ldHE : Statement (.ldHE) := of_op _ rfl rfl
theorem ldHH : Statement (.ldHH) := of_op _ rfl rfl
theorem ldHL : Statement (.ldHL) := of_op _ rfl rfl
theorem ldHA : Statement (.ldHA) := of_op _ rfl rfl
theorem ldLB : Statement (.ldLB) := of_op _ rfl rfl
theorem ldLC : Statement (.ldLC) := of_op _ rfl rfl
theorem ldLD : Statement (.ldLD) := of_op _ rfl rfl
theorem ldLE : Statement (.ldLE) := of_op _ rfl rfl
theorem ldLH : Statement (.ldLH) := of_op _ rfl rfl
theorem ldLL : Statement (.ldLL) := of_op _ rfl rfl
theorem ldLA : Statement (.ldLA) := of_op _ rfl rfl
theorem ldAB : Statement (.ldAB) := of_op _ rfl rfl
theorem ldAC : Statement (.ldAC) := of_op _ rfl rfl
theorem ldAD : Statement (.ldAD) := of_op _ rfl rfl
theorem ldAE : Statement (.ldAE) := of_op _ rfl rfl
theorem ldAH : Statement (.ldAH) := of_op _ rfl rfl
theorem ldAL : Statement (.ldAL) := of_op _ rfl rfl
theorem ldAA : Statement (.ldAA) := of_op _ rfl rfl
theorem incB : Statement (.incB) := of_op _ rfl rfl
theorem incC : Statement (.incC) := of_op _ rfl rfl
theorem incD : Statement (.incD) := of_op _ rfl rfl
theorem incE : Statement (.incE) := of_op _ rfl rfl
theorem incH : Statement (.incH) := of_op _ rfl rfl
theorem incL : Statement (.incL) := of_op _ rfl rfl
theorem incA : Statement (.incA) := of_op _ rfl rfl
theorem decB : Statement (.decB) := of_op _ rfl rfl
theorem decC : Statement (.decC) := of_op _ rfl rfl
theorem decD : Statement (.decD) := of_op _ rfl rfl
theorem decE : Statement (.decE) := of_op _ rfl rfl
theorem decH : Statement (.decH) := of_op _ rfl rfl
theorem decL : Statement (.decL) := of_op _ rfl rfl
theorem decA : Statement (.decA) := of_op _ rfl rfl
theorem incBc : Statement (.incBc) := of_op _ rfl rfl
theorem incDe : Statement (.incDe) := of_op _ rfl rfl
theorem incHl : Statement (.incHl) := of_op _ rfl rfl
theorem incSp : Statement (.incSp) := of_op _ rfl rfl
theorem decSp : Statement (.decSp) := of_op _ rfl rfl
theorem addB : Statement (.addB) := of_op _ rfl rfl
theorem addC : Statement (.addC) := of_op _ rfl rfl
theorem addD : Statement (.addD) := of_op _ rfl rfl
theorem addE : Statement (.addE) := of_op _ rfl rfl
theorem addH : Statement (.addH) := of_op _ rfl rfl
theorem addL : Statement (.addL) := of_op _ rfl rfl
theorem addAtHl : Statement (.addAtHl) := of_op _ rfl rfl
theorem addA : Statement (.addA) := of_op _ rfl rfl
theorem addImm (n : Byte) : Statement (.addImm n) := of_d8 Instr.addImm n rfl rfl
theorem subB : Statement (.subB) := of_op _ rfl rfl
theorem subC : Statement (.subC) := of_op _ rfl rfl
theorem subD : Statement (.subD) := of_op _ rfl rfl
theorem subE : Statement (.subE) := of_op _ rfl rfl
theorem subH : Statement (.subH) := of_op _ rfl rfl
theorem subL : Statement (.subL) := of_op _ rfl rfl
theorem subAtHl : Statement (.subAtHl) := of_op _ rfl rfl
theorem subA : Statement (.subA) := of_op _ rfl rfl
theorem subImm (n : Byte) : Statement (.subImm n) := of_d8 Instr.subImm n rfl rfl
theorem cpB : Statement (.cpB) := of_op _ rfl rfl
theorem cpC : Statement (.cpC) := of_op _ rfl rfl
theorem cpD : Statement (.cpD) := of_op _ rfl rfl
theorem cpE : Statement (.cpE) := of_op _ rfl rfl
theorem cpH : Statement (.cpH) := of_op _ rfl rfl
theorem cpL : Statement (.cpL) := of_op _ rfl rfl
theorem cpAtHl : Statement (.cpAtHl) := of_op _ rfl rfl
theorem cpA : Statement (.cpA) := of_op _ rfl rfl
theorem cpImm (n : Byte) : Statement (.cpImm n) := of_d8 Instr.cpImm n rfl rfl
theorem xorA : Statement (.xorA) := of_op _ rfl rfl
theorem rla : Statement (.rla) := of_op _ rfl rfl
theorem jr (e : Byte) : Statement (.jr e) := of_d8 Instr.jr e rfl rfl
theorem jrNz (e : Byte) : Statement (.jrNz e) := of_d8 Instr.jrNz e rfl rfl
theorem jrZ (e : Byte) : Statement (.jrZ e) := of_d8 Instr.jrZ e rfl rfl
theorem call (nn : Word) : Statement (.call nn) := of_d16 Instr.call nn rfl rfl
theorem rst38 : Statement (.rst38) := of_op _ rfl rfl
theorem ret : Statement (.ret) := of_op _ rfl rfl
theorem pushBc : Statement (.pushBc) := of_op _ rfl rfl
theorem pushDe : Statement (.pushDe) := of_op _ rfl rfl
theorem pushHl : Statement (.pushHl) := of_op _ rfl rfl
theorem popBc : Statement (.popBc) := of_op _ rfl rfl
theorem popDe : Statement (.popDe) := of_op _ rfl rfl
theorem popHl : Statement (.popHl) := of_op _ rfl rfl
theorem ldhAtImmA (n : Byte) : Statement (.ldhAtImmA n) := of_d8 Instr.ldhAtImmA n rfl rfl
theorem ldhAAtImm (n : Byte) : Statement (.ldhAAtImm n) := of_d8 Instr.ldhAAtImm n rfl rfl
theorem ldAtCA : Statement (.ldAtCA) := of_op _ rfl rfl
theorem ldAAtC : Statement (.ldAAtC) := of_op _ rfl rfl
theorem ldAtImmA (nn : Word) : Statement (.ldAtImmA nn) := of_d16 Instr.ldAtImmA nn rfl rfl
theorem ldAAtImm (nn : Word) : Statement (.ldAAtImm nn) := of_d16 Instr.ldAAtImm nn rfl rfl
theorem rlB : Statement (.rlB) := of_op _ rfl rfl
theorem rlC : Statement (.rlC) := of_op _ rfl rfl
theorem rlD : Statement (.rlD) := of_op _ rfl rfl
theorem rlE : Statement (.rlE) := of_op _ rfl rfl
theorem rlH : Statement (.rlH) := of_op _ rfl rfl
theorem rlL : Statement (.rlL) := of_op _ rfl rfl
theorem rlA : Statement (.rlA) := of_op _ rfl rfl
theorem bit0B : Statement (.bit0B) := of_op _ rfl rfl
theorem bit0C : Statement (.bit0C) := of_op _ rfl rfl
theorem bit0D : Statement (.bit0D) := of_op _ rfl rfl
theorem bit0E : Statement (.bit0E) := of_op _ rfl rfl
theorem bit0H : Statement (.bit0H) := of_op _ rfl rfl
theorem bit0L : Statement (.bit0L) := of_op _ rfl rfl
theorem bit0AtHl : Statement (.bit0AtHl) := of_op _ rfl rfl
theorem bit0A : Statement (.bit0A) := of_op _ rfl rfl
theorem bit1B : Statement (.bit1B) := of_op _ rfl rfl
theorem bit1C : Statement (.bit1C) := of_op _ rfl rfl
theorem bit1D : Statement (.bit1D) := of_op _ rfl rfl
theorem bit1E : Statement (.bit1E) := of_op _ rfl rfl
theorem bit1H : Statement (.bit1H) := of_op _ rfl rfl
theorem bit1L : Statement (.bit1L) := of_op _ rfl rfl
theorem bit1AtHl : Statement (.bit1AtHl) := of_op _ rfl rfl
theorem bit1A : Statement (.bit1A) := of_op _ rfl rfl
theorem bit2B : Statement (.bit2B) := of_op _ rfl rfl
theorem bit2C : Statement (.bit2C) := of_op _ rfl rfl
theorem bit2D : Statement (.bit2D) := of_op _ rfl rfl
theorem bit2E : Statement (.bit2E) := of_op _ rfl rfl
theorem bit2H : Statement (.bit2H) := of_op _ rfl rfl
theorem bit2L : Statement (.bit2L) := of_op _ rfl rfl
theorem bit2AtHl : Statement (.bit2AtHl) := of_op _ rfl rfl
theorem bit2A : Statement (.bit2A) := of_op _ rfl rfl
theorem bit3B : Statement (.bit3B) := of_op _ rfl rfl
theorem bit3C : Statement (.bit3C) := of_op _ rfl rfl
theorem bit3D : Statement (.bit3D) := of_op _ rfl rfl
theorem bit3E : Statement (.bit3E) := of_op _ rfl rfl
theorem bit3H : Statement (.bit3H) := of_op _ rfl rfl
theorem bit3L : Statement (.bit3L) := of_op _ rfl rfl
theorem bit3AtHl : Statement (.bit3AtHl) := of_op _ rfl rfl
theorem bit3A : Statement (.bit3A) := of_op _ rfl rfl
theorem bit4B : Statement (.bit4B) := of_op _ rfl rfl
theorem bit4C : Statement (.bit4C) := of_op _ rfl rfl
theorem bit4D : Statement (.bit4D) := of_op _ rfl rfl
theorem bit4E : Statement (.bit4E) := of_op _ rfl rfl
theorem bit4H : Statement (.bit4H) := of_op _ rfl rfl
theorem bit4L : Statement (.bit4L) := of_op _ rfl rfl
theorem bit4AtHl : Statement (.bit4AtHl) := of_op _ rfl rfl
theorem bit4A : Statement (.bit4A) := of_op _ rfl rfl
theorem bit5B : Statement (.bit5B) := of_op _ rfl rfl
theorem bit5C : Statement (.bit5C) := of_op _ rfl rfl
theorem bit5D : Statement (.bit5D) := of_op _ rfl rfl
theorem bit5E : Statement (.bit5E) := of_op _ rfl rfl
theorem bit5H : Statement (.bit5H) := of_op _ rfl rfl
theorem bit5L : Statement (.bit5L) := of_op _ rfl rfl
theorem bit5AtHl : Statement (.bit5AtHl) := of_op _ rfl rfl
theorem bit5A : Statement (.bit5A) := of_op _ rfl rfl
theorem bit6B : Statement (.bit6B) := of_op _ rfl rfl
theorem bit6C : Statement (.bit6C) := of_op _ rfl rfl
theorem bit6D : Statement (.bit6D) := of_op _ rfl rfl
theorem bit6E : Statement (.bit6E) := of_op _ rfl rfl
theorem bit6H : Statement (.bit6H) := of_op _ rfl rfl
theorem bit6L : Statement (.bit6L) := of_op _ rfl rfl
theorem bit6AtHl : Statement (.bit6AtHl) := of_op _ rfl rfl
theorem bit6A : Statement (.bit6A) := of_op _ rfl rfl
theorem bit7B : Statement (.bit7B) := of_op _ rfl rfl
theorem bit7C : Statement (.bit7C) := of_op _ rfl rfl
theorem bit7D : Statement (.bit7D) := of_op _ rfl rfl
theorem bit7E : Statement (.bit7E) := of_op _ rfl rfl
theorem bit7H : Statement (.bit7H) := of_op _ rfl rfl
theorem bit7L : Statement (.bit7L) := of_op _ rfl rfl
theorem bit7AtHl : Statement (.bit7AtHl) := of_op _ rfl rfl
theorem bit7A : Statement (.bit7A) := of_op _ rfl rfl

end Sys2Proof.Laws.OpcodeRow
end

