-- ==== Sys2Proof/Tests/Slice0.lean ====
section
/-! SUPPORT. Tests: decoding against the opcode maps of the spec, one step each against the vectors of
95_test_vectors.md and the worked examples it transcribes, and a witness for every statement with hypotheses. Every expected
value is the spec's. -/

namespace Sys2Proof.Tests

open Sys2Proof.Machine

/-! ## Decoding -/

/-- The instruction read from bytes, if any. -/
def decoded (bytes : List Byte) : Option Instr :=
  match decode implAll bytes with
  | .ok (i, _) => some i
  | .error _ => none

/-- A row of the primary map, each opcode followed by the bytes 0x34, 0x12. -/
def rowOf (hi : Nat) : List (Option Instr) :=
  (List.range 16).map fun lo => decoded [BitVec.ofNat 8 (16 * hi + lo), 0x34#8, 0x12#8]

/-- A row of the extended map. -/
def extRowOf (hi : Nat) : List (Option Instr) :=
  (List.range 16).map fun lo => decoded [0xCB#8, BitVec.ofNat 8 (16 * hi + lo)]

/-- Row 0x0x of the primary opcode map (R145). -/
theorem test_decode_primary_0 : rowOf 0x0 =
    [none, some (.ldBcImm 0x1234#16), some .ldAtBcA, some .incBc, some .incB, some .decB,
    some (.ldBImm 0x34#8), none, none, none, some .ldAAtBc, none, some .incC, some .decC,
    some (.ldCImm 0x34#8), none] := by decide

/-- Row 0x1x of the primary opcode map (R145). -/
theorem test_decode_primary_1 : rowOf 0x1 =
    [none, some (.ldDeImm 0x1234#16), some .ldAtDeA, some .incDe, some .incD, some .decD,
    some (.ldDImm 0x34#8), some .rla, some (.jr 0x34#8), none, some .ldAAtDe, none, some .incE, some .decE,
    some (.ldEImm 0x34#8), none] := by decide

/-- Row 0x2x of the primary opcode map (R145). -/
theorem test_decode_primary_2 : rowOf 0x2 =
    [some (.jrNz 0x34#8), some (.ldHlImm 0x1234#16), some .ldAtHlIncA, some .incHl, some .incH, some .decH,
    some (.ldHImm 0x34#8), none, some (.jrZ 0x34#8), none, some .ldAAtHlInc, none, some .incL, some .decL,
    some (.ldLImm 0x34#8), none] := by decide

/-- Row 0x3x of the primary opcode map (R145). -/
theorem test_decode_primary_3 : rowOf 0x3 =
    [none, some (.ldSpImm 0x1234#16), some .ldAtHlDecA, some .incSp, none, none, some (.ldAtHlImm 0x34#8),
    none, none, none, some .ldAAtHlDec, some .decSp, some .incA, some .decA, some (.ldAImm 0x34#8), none] := by decide

/-- Row 0x4x of the primary opcode map (R145). -/
theorem test_decode_primary_4 : rowOf 0x4 =
    [some .ldBB, some .ldBC, some .ldBD, some .ldBE, some .ldBH, some .ldBL, some .ldBAtHl, some .ldBA,
    some .ldCB, some .ldCC, some .ldCD, some .ldCE, some .ldCH, some .ldCL, some .ldCAtHl, some .ldCA] := by decide

/-- Row 0x5x of the primary opcode map (R145). -/
theorem test_decode_primary_5 : rowOf 0x5 =
    [some .ldDB, some .ldDC, some .ldDD, some .ldDE, some .ldDH, some .ldDL, some .ldDAtHl, some .ldDA,
    some .ldEB, some .ldEC, some .ldED, some .ldEE, some .ldEH, some .ldEL, some .ldEAtHl, some .ldEA] := by decide

/-- Row 0x6x of the primary opcode map (R145). -/
theorem test_decode_primary_6 : rowOf 0x6 =
    [some .ldHB, some .ldHC, some .ldHD, some .ldHE, some .ldHH, some .ldHL, some .ldHAtHl, some .ldHA,
    some .ldLB, some .ldLC, some .ldLD, some .ldLE, some .ldLH, some .ldLL, some .ldLAtHl, some .ldLA] := by decide

/-- Row 0x7x of the primary opcode map (R145). -/
theorem test_decode_primary_7 : rowOf 0x7 =
    [some .ldAtHlB, some .ldAtHlC, some .ldAtHlD, some .ldAtHlE, some .ldAtHlH, some .ldAtHlL, none,
    some .ldAtHlA, some .ldAB, some .ldAC, some .ldAD, some .ldAE, some .ldAH, some .ldAL, some .ldAAtHl,
    some .ldAA] := by decide

/-- Row 0x8x of the primary opcode map (R145). -/
theorem test_decode_primary_8 : rowOf 0x8 =
    [some .addB, some .addC, some .addD, some .addE, some .addH, some .addL, some .addAtHl, some .addA, none,
    none, none, none, none, none, none, none] := by decide

/-- Row 0x9x of the primary opcode map (R145). -/
theorem test_decode_primary_9 : rowOf 0x9 =
    [some .subB, some .subC, some .subD, some .subE, some .subH, some .subL, some .subAtHl, some .subA, none,
    none, none, none, none, none, none, none] := by decide

/-- Row 0xAx of the primary opcode map (R145). -/
theorem test_decode_primary_a : rowOf 0xA =
    [none, none, none, none, none, none, none, none, none, none, none, none, none, none, none, some .xorA] := by decide

/-- Row 0xBx of the primary opcode map (R145). -/
theorem test_decode_primary_b : rowOf 0xB =
    [none, none, none, none, none, none, none, none, some .cpB, some .cpC, some .cpD, some .cpE, some .cpH,
    some .cpL, some .cpAtHl, some .cpA] := by decide

/-- Row 0xCx of the primary opcode map (R145). -/
theorem test_decode_primary_c : rowOf 0xC =
    [none, some .popBc, none, none, none, some .pushBc, some (.addImm 0x34#8), none, none, some .ret, none,
    none, none, some (.call 0x1234#16), none, none] := by decide

/-- Row 0xDx of the primary opcode map (R145). -/
theorem test_decode_primary_d : rowOf 0xD =
    [none, some .popDe, none, none, none, some .pushDe, some (.subImm 0x34#8), none, none, none, none, none,
    none, none, none, none] := by decide

/-- Row 0xEx of the primary opcode map (R145). -/
theorem test_decode_primary_e : rowOf 0xE =
    [some (.ldhAtImmA 0x34#8), some .popHl, some .ldAtCA, none, none, some .pushHl, none, none, none, none,
    some (.ldAtImmA 0x1234#16), none, none, none, none, none] := by decide

/-- Row 0xFx of the primary opcode map (R145). -/
theorem test_decode_primary_f : rowOf 0xF =
    [some (.ldhAAtImm 0x34#8), none, some .ldAAtC, none, none, none, none, none, none, none,
    some (.ldAAtImm 0x1234#16), none, none, none, some (.cpImm 0x34#8), some .rst38] := by decide

/-- Row 0x1x of the extended opcode map (R146). -/
theorem test_decode_extended_1 : extRowOf 0x1 =
    [some .rlB, some .rlC, some .rlD, some .rlE, some .rlH, some .rlL, none, some .rlA, none, none, none, none,
    none, none, none, none] := by decide

/-- Row 0x4x of the extended opcode map (R146). -/
theorem test_decode_extended_4 : extRowOf 0x4 =
    [some .bit0B, some .bit0C, some .bit0D, some .bit0E, some .bit0H, some .bit0L, some .bit0AtHl, some .bit0A,
    some .bit1B, some .bit1C, some .bit1D, some .bit1E, some .bit1H, some .bit1L, some .bit1AtHl, some .bit1A] := by decide

/-- Row 0x5x of the extended opcode map (R146). -/
theorem test_decode_extended_5 : extRowOf 0x5 =
    [some .bit2B, some .bit2C, some .bit2D, some .bit2E, some .bit2H, some .bit2L, some .bit2AtHl, some .bit2A,
    some .bit3B, some .bit3C, some .bit3D, some .bit3E, some .bit3H, some .bit3L, some .bit3AtHl, some .bit3A] := by decide

/-- Row 0x6x of the extended opcode map (R146). -/
theorem test_decode_extended_6 : extRowOf 0x6 =
    [some .bit4B, some .bit4C, some .bit4D, some .bit4E, some .bit4H, some .bit4L, some .bit4AtHl, some .bit4A,
    some .bit5B, some .bit5C, some .bit5D, some .bit5E, some .bit5H, some .bit5L, some .bit5AtHl, some .bit5A] := by decide

/-- Row 0x7x of the extended opcode map (R146). -/
theorem test_decode_extended_7 : extRowOf 0x7 =
    [some .bit6B, some .bit6C, some .bit6D, some .bit6E, some .bit6H, some .bit6L, some .bit6AtHl, some .bit6A,
    some .bit7B, some .bit7C, some .bit7D, some .bit7E, some .bit7H, some .bit7L, some .bit7AtHl, some .bit7A] := by decide

/-- BIT 7,H written out bit by bit: the escape byte 11001011, then 01 bbb rrr with bbb = 111 and rrr = 100 (R142, R232). -/
theorem test_decode_bits_bit7H : decoded [0b11001011#8, 0b01111100#8] = some .bit7H := by decide

/-- LD SP,nn written out bit by bit: 00 dd0 001 with dd = 11, then the low byte and the high byte (R142, R182). -/
theorem test_decode_bits_ldSp : decoded [0b00110001#8, 0xFE#8, 0xFF#8] = some (.ldSpImm 0xFFFE#16) := by decide

/-- 0x76, 0x00 and 0xCB 0x16 are refused, each by name (R147). -/
theorem test_decode_refuses :
    decode implAll [0x76#8] = .error (.undefinedOpcode .primary 0x76#8) ∧
    decode implAll [0x00#8] = .error (.undefinedOpcode .primary 0x00#8) ∧
    decode implAll [0xCB#8, 0x16#8] = .error (.undefinedOpcode .extended 0x16#8) ∧
    decode implAll [0x01#8, 0x34#8] = .error .truncated := by
  refine ⟨?_, ?_, ?_, ?_⟩ <;> rfl

/-- Table words as spec/opcode_table.json numbers them: 0x3E with a zero operand, and 0xCB7C. -/
theorem test_decodeTableWord :
    decodeTableWord 8 0x3E = some (.ldAImm 0x00#8) ∧ decodeTableWord 16 0xCB7C = some .bit7H ∧
    decodeTableWord 24 0x12343E = some (.ldAImm 0x34#8) ∧ decodeTableWord 8 0x76 = none := by decide

/-! ## Well-formedness: the one check refuses an opcode outside IMPL_SET (R13) -/

/-- IMPL_SET without RST 38H. -/
def withoutRst : ImplSet := fun sp op => !(sp == .primary && op == 0xFF#8)

theorem test_wellFormed_refuses : Instr.rst38.wellFormed withoutRst = false ∧ Instr.ret.wellFormed withoutRst = true := by
  decide

theorem test_decode_outside_implSet :
    decode withoutRst [0xFF#8] = .error (.undefinedOpcode .primary 0xFF#8) := by rfl

/-! ## One step: the start of a vector is its code at 0xC000, the boot flag clear, every register 0 -/

/-- The start of a vector. -/
def at0 (code : List Byte) : State := placeBytes { State.reset with bootFlag := false, pc := 0xC000#16 } 0xC000#16 code

/-- A step answers a next state with the property. -/
def stepsTo (s : State) (p : State → Bool) : Bool :=
  match step s with
  | .next t => p t
  | .fault _ => false
  | .refused _ => false

/-- V101 (R180): LD B,n. -/
theorem test_v101 : stepsTo ({ at0 [0x06#8, 0x42#8] with f := 0xF0#8 }) fun t =>
    t.b = 0x42#8 ∧ t.f = 0xF0#8 ∧ t.pc = 0xC002#16 ∧ t.cpuClock.base = 2 := by decide

/-- V102 (R180): LD A,n. -/
theorem test_v102 : stepsTo (at0 [0x3E#8, 0xFF#8]) fun t =>
    t.a = 0xFF#8 ∧ t.pc = 0xC002#16 ∧ t.cpuClock.base = 2 := by decide

/-- V103 (R181): LD (HL),n. -/
theorem test_v103 : stepsTo ({ at0 [0x36#8, 0x5A#8] with h := 0xC0#8, l := 0x80#8 }) fun t =>
    peek t 0xC080#16 = 0x5A#8 ∧ t.pair .hl = 0xC080#16 ∧ t.pc = 0xC002#16 ∧ t.cpuClock.base = 3 := by decide

/-- V104 (R181): LD (HL),n to ROM is lost. -/
theorem test_v104 : stepsTo ({ at0 [0x36#8, 0x5A#8] with h := 0x12#8, l := 0x34#8 }) fun t =>
    peek t 0x1234#16 = 0x00#8 ∧ t.pc = 0xC002#16 ∧ t.cpuClock.base = 3 := by decide

/-- V105 (R182): LD BC,nn. -/
theorem test_v105 : stepsTo (at0 [0x01#8, 0x34#8, 0x12#8]) fun t =>
    t.b = 0x12#8 ∧ t.c = 0x34#8 ∧ t.pc = 0xC003#16 ∧ t.cpuClock.base = 3 := by decide

/-- V106 (R182): LD SP,nn. -/
theorem test_v106 : stepsTo (at0 [0x31#8, 0xFE#8, 0xFF#8]) fun t =>
    t.sp = 0xFFFE#16 ∧ t.pc = 0xC003#16 ∧ t.cpuClock.base = 3 := by decide

/-- V108 (R183): LD (BC),A. -/
theorem test_v108 : stepsTo ({ at0 [0x02#8] with a := 0x77#8, b := 0xC1#8, c := 0x23#8 }) fun t =>
    peek t 0xC123#16 = 0x77#8 ∧ t.pc = 0xC001#16 ∧ t.cpuClock.base = 2 := by decide

/-- V109 (R184): LD (DE),A. -/
theorem test_v109 : stepsTo ({ at0 [0x12#8] with a := 0x66#8, d := 0xFF#8, e := 0x90#8 }) fun t =>
    peek t 0xFF90#16 = 0x66#8 ∧ t.cpuClock.base = 2 := by decide

/-- V110 (R185): LD A,(BC). -/
theorem test_v110 : stepsTo ({ memWrite (at0 [0x0A#8]) 0xC200#16 0x3C#8 with b := 0xC2#8, c := 0x00#8 }) fun t =>
    t.a = 0x3C#8 ∧ t.cpuClock.base = 2 := by decide

/-- V111 (R186): LD A,(DE) from a stub. -/
theorem test_v111 : stepsTo ({ at0 [0x1A#8] with a := 0x55#8, d := 0xFF#8, e := 0x00#8 }) fun t =>
    t.a = 0x00#8 ∧ t.cpuClock.base = 2 := by decide

/-- V112 (R187): LD (HL+),A. -/
theorem test_v112 : stepsTo ({ at0 [0x22#8] with a := 0x11#8, h := 0xC0#8, l := 0xFF#8 }) fun t =>
    peek t 0xC0FF#16 = 0x11#8 ∧ t.pair .hl = 0xC100#16 ∧ t.cpuClock.base = 2 := by decide

/-- V113 (R187): LD (HL+),A at 0xFFFF. -/
theorem test_v113 : stepsTo ({ at0 [0x22#8] with a := 0x11#8, h := 0xFF#8, l := 0xFF#8 }) fun t =>
    peek t 0xFFFF#16 = 0x00#8 ∧ t.pair .hl = 0x0000#16 ∧ t.cpuClock.base = 2 := by decide

/-- V114 (R188): LD A,(HL+). -/
theorem test_v114 : stepsTo ({ memWrite (at0 [0x2A#8]) 0xC300#16 0x99#8 with h := 0xC3#8, l := 0x00#8 }) fun t =>
    t.a = 0x99#8 ∧ t.pair .hl = 0xC301#16 ∧ t.cpuClock.base = 2 := by decide

/-- V115 (R189): LD (HL-),A. -/
theorem test_v115 : stepsTo ({ at0 [0x32#8] with a := 0x22#8, h := 0xC6#8, l := 0x00#8 }) fun t =>
    peek t 0xC600#16 = 0x22#8 ∧ t.pair .hl = 0xC5FF#16 ∧ t.cpuClock.base = 2 := by decide

/-- V116 (R189): LD (HL-),A at 0x0000. -/
theorem test_v116 : stepsTo ({ at0 [0x32#8] with a := 0x22#8, h := 0x00#8, l := 0x00#8 }) fun t =>
    t.pair .hl = 0xFFFF#16 ∧ t.cpuClock.base = 2 := by decide

/-- V117 (R190): LD A,(HL-). -/
theorem test_v117 : stepsTo ({ memWrite (at0 [0x3A#8]) 0xC401#16 0x81#8 with h := 0xC4#8, l := 0x01#8 }) fun t =>
    t.a = 0x81#8 ∧ t.pair .hl = 0xC400#16 ∧ t.cpuClock.base = 2 := by decide

/-- V118 (R191): LD B,(HL). -/
theorem test_v118 : stepsTo ({ memWrite (at0 [0x46#8]) 0xC500#16 0xAB#8 with h := 0xC5#8, l := 0x00#8 }) fun t =>
    t.b = 0xAB#8 ∧ t.cpuClock.base = 2 := by decide

/-- V119 (R191): LD H,(HL). -/
theorem test_v119 : stepsTo ({ memWrite (at0 [0x66#8]) 0xC500#16 0xC6#8 with h := 0xC5#8, l := 0x00#8 }) fun t =>
    t.h = 0xC6#8 ∧ t.l = 0x00#8 ∧ t.cpuClock.base = 2 := by decide

/-- V120 (R192): LD (HL),L. -/
theorem test_v120 : stepsTo ({ at0 [0x75#8] with h := 0xC5#8, l := 0x10#8 }) fun t =>
    peek t 0xC510#16 = 0x10#8 ∧ t.cpuClock.base = 2 := by decide

/-- V121 (R192): LD (HL),H into VRAM. -/
theorem test_v121 : stepsTo ({ at0 [0x74#8] with h := 0x80#8, l := 0x00#8 }) fun t =>
    peek t 0x8000#16 = 0x80#8 ∧ t.cpuClock.base = 2 := by decide

/-- V122 (R193): LD B,A. -/
theorem test_v122 : stepsTo ({ at0 [0x47#8] with a := 0x5C#8, f := 0xB0#8 }) fun t =>
    t.b = 0x5C#8 ∧ t.f = 0xB0#8 ∧ t.cpuClock.base = 1 := by decide

/-- V123 (R193): LD L,H. -/
theorem test_v123 : stepsTo ({ at0 [0x6C#8] with h := 0x12#8, l := 0x34#8 }) fun t =>
    t.l = 0x12#8 ∧ t.cpuClock.base = 1 := by decide

/-- V201 (R200): INC B, wrap 0xFF to 0. -/
theorem test_v201 : stepsTo ({ at0 [0x04#8] with b := 0xFF#8, f := 0x10#8 }) fun t =>
    t.b = 0x00#8 ∧ t.f = 0xB0#8 ∧ t.cpuClock.base = 1 := by decide

/-- V202 (R200): INC B, half carry. -/
theorem test_v202 : stepsTo ({ at0 [0x04#8] with b := 0x0F#8, f := 0x10#8 }) fun t =>
    t.b = 0x10#8 ∧ t.f = 0x30#8 ∧ t.cpuClock.base = 1 := by decide

/-- V205 (R201): DEC B, wrap 0 to 0xFF. -/
theorem test_v205 : stepsTo ({ at0 [0x05#8] with b := 0x00#8, f := 0x00#8 }) fun t =>
    t.b = 0xFF#8 ∧ t.f = 0x60#8 ∧ t.cpuClock.base = 1 := by decide

/-- V206 (R201): DEC B, to zero, C kept. -/
theorem test_v206 : stepsTo ({ at0 [0x05#8] with b := 0x01#8, f := 0x10#8 }) fun t =>
    t.b = 0x00#8 ∧ t.f = 0xD0#8 ∧ t.cpuClock.base = 1 := by decide

/-- V209 (R202): INC BC, wrap. -/
theorem test_v209 : stepsTo ({ at0 [0x03#8] with b := 0xFF#8, c := 0xFF#8, f := 0xA0#8 }) fun t =>
    t.b = 0x00#8 ∧ t.c = 0x00#8 ∧ t.f = 0xA0#8 ∧ t.cpuClock.base = 2 := by decide

/-- V210 (R202): INC DE, carry into D. -/
theorem test_v210 : stepsTo ({ at0 [0x13#8] with d := 0x12#8, e := 0xFF#8, f := 0x00#8 }) fun t =>
    t.d = 0x13#8 ∧ t.e = 0x00#8 ∧ t.f = 0x00#8 ∧ t.cpuClock.base = 2 := by decide

/-- V213 (R203): DEC SP, wrap. -/
theorem test_v213 : stepsTo ({ at0 [0x3B#8] with sp := 0x0000#16, f := 0x50#8 }) fun t =>
    t.sp = 0xFFFF#16 ∧ t.f = 0x50#8 ∧ t.cpuClock.base = 2 := by decide

/-- V301 (R210): ADD A,B, carry and half carry. -/
theorem test_v301 : stepsTo ({ at0 [0x80#8] with a := 0x3A#8, b := 0xC6#8 }) fun t =>
    t.a = 0x00#8 ∧ t.f = 0xB0#8 ∧ t.cpuClock.base = 1 := by decide

/-- V302 (R210): ADD A,B, half carry only. -/
theorem test_v302 : stepsTo ({ at0 [0x80#8] with a := 0x0F#8, b := 0x01#8 }) fun t =>
    t.a = 0x10#8 ∧ t.f = 0x20#8 ∧ t.cpuClock.base = 1 := by decide

/-- V305 (R211): ADD A,(HL). -/
theorem test_v305 : stepsTo ({ memWrite (at0 [0x86#8]) 0xC700#16 0xFE#8 with a := 0x01#8, h := 0xC7#8, l := 0x00#8 }) fun t =>
    t.a = 0xFF#8 ∧ t.f = 0x00#8 ∧ t.cpuClock.base = 2 := by decide

/-- V306 (R212): ADD A,n. -/
theorem test_v306 : stepsTo ({ at0 [0xC6#8, 0x00#8] with a := 0x00#8, f := 0x70#8 }) fun t =>
    t.a = 0x00#8 ∧ t.f = 0x80#8 ∧ t.pc = 0xC002#16 ∧ t.cpuClock.base = 2 := by decide

/-- V307 (R213): SUB B, equal. -/
theorem test_v307 : stepsTo ({ at0 [0x90#8] with a := 0x3E#8, b := 0x3E#8 }) fun t =>
    t.a = 0x00#8 ∧ t.f = 0xC0#8 ∧ t.cpuClock.base = 1 := by decide

/-- V308 (R213): SUB B, half borrow. -/
theorem test_v308 : stepsTo ({ at0 [0x90#8] with a := 0x3E#8, b := 0x0F#8 }) fun t =>
    t.a = 0x2F#8 ∧ t.f = 0x60#8 ∧ t.cpuClock.base = 1 := by decide

/-- V311 (R214): SUB (HL). -/
theorem test_v311 : stepsTo ({ memWrite (at0 [0x96#8]) 0xC700#16 0x01#8 with a := 0x10#8, h := 0xC7#8, l := 0x00#8 }) fun t =>
    t.a = 0x0F#8 ∧ t.f = 0x60#8 ∧ t.cpuClock.base = 2 := by decide

/-- V312 (R215): SUB n. -/
theorem test_v312 : stepsTo ({ at0 [0xD6#8, 0x01#8] with a := 0x00#8 }) fun t =>
    t.a = 0xFF#8 ∧ t.f = 0x70#8 ∧ t.cpuClock.base = 2 := by decide

/-- V313 (R216): CP B, less. -/
theorem test_v313 : stepsTo ({ at0 [0xB8#8] with a := 0x3E#8, b := 0x40#8 }) fun t =>
    t.a = 0x3E#8 ∧ t.f = 0x50#8 ∧ t.cpuClock.base = 1 := by decide

/-- V314 (R216): CP A. -/
theorem test_v314 : stepsTo ({ at0 [0xBF#8] with a := 0x3E#8 }) fun t =>
    t.a = 0x3E#8 ∧ t.f = 0xC0#8 ∧ t.cpuClock.base = 1 := by decide

/-- V315 (R217): CP (HL). -/
theorem test_v315 : stepsTo ({ memWrite (at0 [0xBE#8]) 0xC700#16 0x90#8 with a := 0x90#8, h := 0xC7#8, l := 0x00#8 }) fun t =>
    t.a = 0x90#8 ∧ t.f = 0xC0#8 ∧ t.cpuClock.base = 2 := by decide

/-- V316 (R218): CP n, greater. -/
theorem test_v316 : stepsTo ({ at0 [0xFE#8, 0x2F#8] with a := 0x3E#8 }) fun t =>
    t.a = 0x3E#8 ∧ t.f = 0x60#8 ∧ t.cpuClock.base = 2 := by decide

/-- V317 (R219): XOR A. -/
theorem test_v317 : stepsTo ({ at0 [0xAF#8] with a := 0x5A#8, f := 0x70#8 }) fun t =>
    t.a = 0x00#8 ∧ t.f = 0x80#8 ∧ t.cpuClock.base = 1 := by decide

/-- V401 (R230): RLA, bit 7 out. -/
theorem test_v401 : stepsTo ({ at0 [0x17#8] with a := 0x80#8, f := 0x00#8 }) fun t =>
    t.a = 0x00#8 ∧ t.f = 0x90#8 ∧ t.cpuClock.base = 1 := by decide

/-- V402 (R230): RLA, carry in. -/
theorem test_v402 : stepsTo ({ at0 [0x17#8] with a := 0x01#8, f := 0x10#8 }) fun t =>
    t.a = 0x03#8 ∧ t.f = 0x00#8 ∧ t.cpuClock.base = 1 := by decide

/-- V405 (R231): RL B. -/
theorem test_v405 : stepsTo ({ at0 [0xCB#8, 0x10#8] with b := 0x80#8, f := 0x10#8 }) fun t =>
    t.b = 0x01#8 ∧ t.f = 0x10#8 ∧ t.cpuClock.base = 2 := by decide

/-- V406 (R231): RL C to zero. -/
theorem test_v406 : stepsTo ({ at0 [0xCB#8, 0x11#8] with c := 0x80#8, f := 0x00#8 }) fun t =>
    t.c = 0x00#8 ∧ t.f = 0x90#8 ∧ t.cpuClock.base = 2 := by decide

/-- V408 (R232): BIT 7,H, bit set. -/
theorem test_v408 : stepsTo ({ at0 [0xCB#8, 0x7C#8] with h := 0x80#8, f := 0x10#8 }) fun t =>
    t.f = 0x30#8 ∧ t.cpuClock.base = 2 := by decide

/-- V409 (R232): BIT 7,H, bit clear. -/
theorem test_v409 : stepsTo ({ at0 [0xCB#8, 0x7C#8] with h := 0x7F#8, f := 0x00#8 }) fun t =>
    t.f = 0xA0#8 ∧ t.cpuClock.base = 2 := by decide

/-- V411 (R233): BIT 3,(HL). -/
theorem test_v411 : stepsTo ({ memWrite (at0 [0xCB#8, 0x5E#8]) 0xC700#16 0x08#8 with h := 0xC7#8, l := 0x00#8, f := 0x00#8 }) fun t =>
    t.f = 0x20#8 ∧ t.cpuClock.base = 3 := by decide

/-- V412 (R233): BIT 6,(HL). -/
theorem test_v412 : stepsTo ({ memWrite (at0 [0xCB#8, 0x76#8]) 0xC700#16 0x08#8 with h := 0xC7#8, l := 0x00#8, f := 0x10#8 }) fun t =>
    t.f = 0xB0#8 ∧ t.cpuClock.base = 3 := by decide

/-- V501 (R240): JR +0x7F. -/
theorem test_v501 : stepsTo (at0 [0x18#8, 0x7F#8]) fun t =>
    t.pc = 0xC081#16 ∧ t.cpuClock.base = 3 := by decide

/-- V502 (R240): JR -2, to itself. -/
theorem test_v502 : stepsTo (at0 [0x18#8, 0xFE#8]) fun t =>
    t.pc = 0xC000#16 ∧ t.cpuClock.base = 3 := by decide

/-- V504 (R241): JR NZ taken. -/
theorem test_v504 : stepsTo ({ at0 [0x20#8, 0x05#8] with f := 0x00#8 }) fun t =>
    t.pc = 0xC007#16 ∧ t.cpuClock.base = 3 := by decide

/-- V505 (R241): JR NZ not taken. -/
theorem test_v505 : stepsTo ({ at0 [0x20#8, 0x05#8] with f := 0x80#8 }) fun t =>
    t.pc = 0xC002#16 ∧ t.cpuClock.base = 2 := by decide

/-- V506 (R242): JR Z taken. -/
theorem test_v506 : stepsTo ({ at0 [0x28#8, 0xFC#8] with f := 0x80#8 }) fun t =>
    t.pc = 0xBFFE#16 ∧ t.cpuClock.base = 3 := by decide

/-- V507 (R242): JR Z not taken. -/
theorem test_v507 : stepsTo ({ at0 [0x28#8, 0xFC#8] with f := 0x70#8 }) fun t =>
    t.pc = 0xC002#16 ∧ t.f = 0x70#8 ∧ t.cpuClock.base = 2 := by decide

/-- V508 (R243): CALL nn. -/
theorem test_v508 : stepsTo ({ at0 [0xCD#8, 0x00#8, 0xC1#8] with sp := 0xD000#16 }) fun t =>
    peek t 0xCFFE#16 = 0x03#8 ∧ peek t 0xCFFF#16 = 0xC0#8 ∧ t.pc = 0xC100#16 ∧ t.sp = 0xCFFE#16 ∧ t.cpuClock.base = 6 := by decide

/-- V509 (R243): CALL with SP=0x0001. -/
theorem test_v509 : stepsTo ({ at0 [0xCD#8, 0x34#8, 0x12#8] with sp := 0x0001#16 }) fun t =>
    t.pc = 0x1234#16 ∧ t.sp = 0xFFFF#16 ∧ t.cpuClock.base = 6 := by decide

/-- V510 (R244): RST 38H. -/
theorem test_v510 : stepsTo ({ at0 [0xFF#8] with sp := 0xD000#16 }) fun t =>
    peek t 0xCFFE#16 = 0x01#8 ∧ peek t 0xCFFF#16 = 0xC0#8 ∧ t.pc = 0x0038#16 ∧ t.sp = 0xCFFE#16 ∧ t.cpuClock.base = 4 := by decide

/-- V511 (R245): RET. -/
theorem test_v511 : stepsTo ({ memWrite (memWrite (at0 [0xC9#8]) 0xCFFE#16 0x03#8) 0xCFFF#16 0xC0#8 with sp := 0xCFFE#16 }) fun t =>
    t.pc = 0xC003#16 ∧ t.sp = 0xD000#16 ∧ t.cpuClock.base = 4 := by decide

/-- V512 (R245): RET with SP=0xFFFE. -/
theorem test_v512 : stepsTo ({ memWrite (at0 [0xC9#8]) 0xFFFE#16 0x21#8 with sp := 0xFFFE#16 }) fun t =>
    t.pc = 0x0021#16 ∧ t.sp = 0x0000#16 ∧ t.cpuClock.base = 4 := by decide

/-- V601 (R250): PUSH BC. -/
theorem test_v601 : stepsTo ({ at0 [0xC5#8] with b := 0x12#8, c := 0x34#8, sp := 0xD000#16 }) fun t =>
    peek t 0xCFFF#16 = 0x12#8 ∧ peek t 0xCFFE#16 = 0x34#8 ∧ t.sp = 0xCFFE#16 ∧ t.cpuClock.base = 4 := by decide

/-- V602 (R250): PUSH HL, odd SP. -/
theorem test_v602 : stepsTo ({ at0 [0xE5#8] with h := 0xAB#8, l := 0xCD#8, sp := 0xC801#16 }) fun t =>
    peek t 0xC800#16 = 0xAB#8 ∧ peek t 0xC7FF#16 = 0xCD#8 ∧ t.sp = 0xC7FF#16 ∧ t.cpuClock.base = 4 := by decide

/-- V603 (R251): POP DE. -/
theorem test_v603 : stepsTo ({ memWrite (memWrite (at0 [0xD1#8]) 0xCFFE#16 0x34#8) 0xCFFF#16 0x12#8 with sp := 0xCFFE#16 }) fun t =>
    t.d = 0x12#8 ∧ t.e = 0x34#8 ∧ t.sp = 0xD000#16 ∧ t.cpuClock.base = 3 := by decide

/-- V604 (R251): POP BC at SP=0xFFFF. -/
theorem test_v604 : stepsTo ({ at0 [0xC1#8] with sp := 0xFFFF#16 }) fun t =>
    t.b = 0x00#8 ∧ t.c = 0x00#8 ∧ t.sp = 0x0001#16 ∧ t.cpuClock.base = 3 := by decide

/-- V701 (R255): LDH (0x40),A. -/
theorem test_v701 : stepsTo ({ at0 [0xE0#8, 0x40#8] with a := 0x91#8 }) fun t =>
    peek t 0xFF40#16 = 0x91#8 ∧ t.pc = 0xC002#16 ∧ t.cpuClock.base = 3 := by decide

/-- V702 (R255): LDH (0x44),A is ignored. -/
theorem test_v702 : stepsTo ({ at0 [0xE0#8, 0x44#8] with a := 0x91#8 }) fun t =>
    peek t 0xFF44#16 = 0x00#8 ∧ t.cpuClock.base = 3 := by decide

/-- V704 (R256): LDH A,(0x41), stub. -/
theorem test_v704 : stepsTo ({ at0 [0xF0#8, 0x41#8] with a := 0x77#8 }) fun t =>
    t.a = 0x00#8 ∧ t.cpuClock.base = 3 := by decide

/-- V705 (R256): LDH A,(0x47). -/
theorem test_v705 : stepsTo ({ memWrite (at0 [0xF0#8, 0x47#8]) 0xFF47#16 0xE4#8 with a := 0x00#8 }) fun t =>
    t.a = 0xE4#8 ∧ t.cpuClock.base = 3 := by decide

/-- V706 (R257): LD (C),A. -/
theorem test_v706 : stepsTo ({ at0 [0xE2#8] with a := 0xFC#8, c := 0x47#8 }) fun t =>
    peek t 0xFF47#16 = 0xFC#8 ∧ t.pc = 0xC001#16 ∧ t.cpuClock.base = 2 := by decide

/-- V707 (R258): LD A,(C). -/
theorem test_v707 : stepsTo ({ memWrite (at0 [0xF2#8]) 0xFF80#16 0x07#8 with c := 0x80#8 }) fun t =>
    t.a = 0x07#8 ∧ t.cpuClock.base = 2 := by decide

/-- V708 (R258): LD A,(C), IE stub. -/
theorem test_v708 : stepsTo ({ memWrite (at0 [0xF2#8]) 0xFFFF#16 0x55#8 with a := 0x12#8, c := 0xFF#8 }) fun t =>
    t.a = 0x00#8 ∧ t.cpuClock.base = 2 := by decide

/-- V709 (R259): LD (nn),A. -/
theorem test_v709 : stepsTo ({ at0 [0xEA#8, 0x00#8, 0xC8#8] with a := 0x5A#8 }) fun t =>
    peek t 0xC800#16 = 0x5A#8 ∧ peek t 0xE800#16 = 0x5A#8 ∧ t.pc = 0xC003#16 ∧ t.cpuClock.base = 4 := by decide

/-- V711 (R260): LD A,(nn), external RAM stub. -/
theorem test_v711 : stepsTo ({ at0 [0xFA#8, 0x00#8, 0xA0#8] with a := 0x33#8 }) fun t =>
    t.a = 0x00#8 ∧ t.cpuClock.base = 4 := by decide

/-! ## Fetch, errors, video memory, PPU -/

/-- Right after reset the table word of LD A,n runs as the first instruction. -/
theorem test_reset_withFetchWord :
    stepsTo (State.reset.withFetchWord 8 0x3E) fun t => t.a = 0x00#8 ∧ t.pc = 0x0002#16 ∧ t.cpuClock = ⟨2, 8⟩ := by decide

/-- The same for the two-byte table word of BIT 7,H: Z and H set. -/
theorem test_reset_withFetchWord_extended :
    stepsTo (State.reset.withFetchWord 16 0xCB7C) fun t => t.f = 0xA0#8 ∧ t.pc = 0x0002#16 := by decide

/-- R301: an undefined extended byte stops the CPU with its record, PC past both bytes and no tick. -/
theorem test_decodeError :
    stepsTo (at0 [0xCB#8, 0x16#8]) fun t =>
      t.stopped = true ∧ t.error = some ⟨.extended, 0x16#8⟩ ∧ t.pc = 0xC002#16 ∧ t.cpuClock = ⟨0, 0⟩ := by decide

/-- R365: the fetch of the opcode at 0x0100 clears the boot flag. -/
theorem test_handOver :
    stepsTo { State.reset with pc := 0x0100#16, cartRom := [(0x100, 0xAF#8)] } fun t =>
      t.bootFlag = false ∧ t.f = 0x80#8 ∧ t.pc = 0x0101#16 := by decide

/-- W5: 0xC0 at an even and 0x81 at the next address of a tile row decode to [3,1,0,0,0,0,0,2]. -/
theorem test_tileRow :
    (List.range 8).map (tilePixel (memWrite (memWrite State.reset 0x8000#16 0xC0#8) 0x8001#16 0x81#8).tiles 0 0) =
      [3#2, 1#2, 0#2, 0#2, 0#2, 0#2, 0#2, 2#2] := by decide

/-- W6: a byte written at 0xFDFF reads back at 0xDDFF. -/
theorem test_echo : peek (memWrite State.reset 0xFDFF#16 0x3C#8) 0xDDFF#16 = 0x3C#8 := by decide

/-- W7: PpuStep(20) from reset enters VRAM_READ with the PPU Clock at 0. -/
theorem test_ppuStep :
    (hostPpuStep defaultParams 20 State.reset).mode = .vramRead ∧
    (hostPpuStep defaultParams 20 State.reset).ppuClock = ⟨0, 0⟩ ∧
    (hostPpuStep defaultParams 19 State.reset).mode = .oamRead := by decide

/-- W3: the relative jump of §8, operand byte 137 at address 400, lands at 282. -/
theorem test_jr :
    stepsTo { State.reset with bootFlag := false, pc := 0x018F#16, cartRom := [(0x18F, 0x18#8), (0x190, 0x89#8)] } fun t =>
      t.pc = 282#16 ∧ t.cpuClock.base = 3 := by decide

/-! ## Witnesses: what the hypotheses of each statement ask for exists -/

/-- A state at the end of a visible frame: the last scanline's horizontal blank one base cycle from its threshold, INC B
next. -/
def endOfFrame : State :=
  { at0 [0x04#8] with
    f := 0x10#8, mode := .horizontalBlank, ppuClock := ⟨50, 200⟩, ppu := { PpuRegs.reset with ly := 143#8 } }

theorem endOfFrame_tilesMatch : TilesMatch endOfFrame := by
  intro t y x _ _ _
  change 0#2 = rowPixel 0x00#8 0x00#8 x
  simp [rowPixel, bitSet]

theorem endOfFrame_invariant : Invariant endOfFrame where
  flags := by unfold FlagsLowZero; decide
  tiles := endOfFrame_tilesMatch
  line := by change (143#8).toNat < 144; decide
  stores :=
    ⟨by decide, by decide, by decide, by decide, by decide, by decide, by decide, fun frame h => absurd h List.not_mem_nil⟩
  cpuClock := by unfold Clock.Correlated; decide
  ppuClock := by unfold Clock.Correlated; decide
  ppuClockBelow := by unfold PpuClockBelow; decide
  stop := by unfold StopRecorded; decide
  zeroPageTop := by unfold ZeroPageTopClear; decide

/-- A step from it answers a next state, which enters the vertical blank and hands over a frame. -/
theorem endOfFrame_steps :
    stepsTo endOfFrame fun t => t.mode = .verticalBlank ∧ t.ppu.ly = 144#8 ∧ t.frames = [[]] := by decide

theorem witness_step : ∃ t, stepWith defaultParams endOfFrame = .next t := ⟨_, rfl⟩

theorem witness_InvariantKeptByStep : ∃ s t, Invariant s ∧ stepWith defaultParams s = .next t :=
  ⟨endOfFrame, _, endOfFrame_invariant, rfl⟩

theorem witness_InvariantKeptByHost :
    (∃ s t, Invariant s ∧ FrameRun { defaultParams with frameBudget := 1 } s (.next t) ∧ t ≠ s) ∧
    (∃ s other, Invariant s ∧ Clock.Correlated other ∧ hostAddTime .cpu other s ≠ s) ∧
    (∃ s other, Invariant s ∧ Clock.Correlated other ∧ ¬PpuClockBelow (hostAddTime .ppu other s)) :=
  ⟨⟨endOfFrame, _, endOfFrame_invariant, ⟨1, rfl⟩, by decide⟩, ⟨endOfFrame, ⟨3, 12⟩, endOfFrame_invariant, rfl, by decide⟩,
    ⟨endOfFrame, ⟨51, 204⟩, endOfFrame_invariant, rfl, by unfold PpuClockBelow; decide⟩⟩

theorem witness_TileCacheInvariant :
    ∃ s t u v, TilesMatch s ∧ exec .incB s = .next t ∧ stepWith defaultParams s = .next u ∧
      FrameRun { defaultParams with frameBudget := 1 } s (.next v) :=
  ⟨endOfFrame, _, _, _, endOfFrame_tilesMatch, rfl, rfl, ⟨1, rfl⟩⟩

theorem witness_RomAndBootFlag :
    (∃ s t, stepWith defaultParams s = .next t ∧ s.bootFlag = false) ∧ (0x0000#16).toNat < 0x8000 ∧
      (0x7FFF#16).toNat < 0x8000 :=
  ⟨⟨endOfFrame, _, rfl, rfl⟩, by decide, by decide⟩

theorem witness_ResetValues :
    (isPpuReg 0xFF40#16 = true ∧ isPpuReg 0xFF4B#16 = true) ∧ 0xFF < 0x100 ∧ 0x7FFF < 0x8000 := by decide

/-- The clauses of the read after reset at their boundary values. -/
theorem witness_ResetLoadsImages :
    (0x00FF#16).toNat < 0x100 ∧ ¬(0x0100#16).toNat < 0x100 ∧ (0x7FFF#16).toNat < 0x8000 ∧ ¬(0x8000#16).toNat < 0x8000 := by
  decide

theorem witness_DecodeEncode : (Instr.call 0xFFFF#16).wellFormed withoutRst = true := by decide

theorem witness_EncodeDecode : decode withoutRst [0xCD#8, 0xFF#8, 0x00#8, 0x76#8] = .ok (.call 0x00FF#16, [0x76#8]) := rfl

theorem witness_OpcodeMap :
    0x00#8 ∈ undefinedPrimary ∧ 0xFD#8 ∈ undefinedPrimary ∧ 0x00#8 ∈ undefinedExtended ∧ 0xFF#8 ∈ undefinedExtended ∧
    0xCB#8 ∉ undefinedPrimary := by decide

theorem witness_StepRunsDecodedInstruction :
    endOfFrame.stopped = false ∧ decode defaultParams.implSet (codeBytes endOfFrame) = .ok (.incB, [0x00#8, 0x00#8]) :=
  ⟨rfl, rfl⟩

theorem witness_DecodeErrorEffects :
    ((at0 [0x76#8]).stopped = false ∧
      decode defaultParams.implSet (codeBytes (at0 [0x76#8])) = .error (.undefinedOpcode .primary 0x76#8)) ∧
    ((at0 [0xCB#8, 0x16#8]).stopped = false ∧
      decode defaultParams.implSet (codeBytes (at0 [0xCB#8, 0x16#8])) = .error (.undefinedOpcode .extended 0x16#8)) :=
  ⟨⟨rfl, rfl⟩, ⟨rfl, rfl⟩⟩

/-- A stopped CPU. -/
def stoppedState : State := raiseDecodeError .primary 0x76#8 (at0 [0x04#8])

theorem witness_StoppedStep : stoppedState.stopped = true := rfl

theorem witness_HandlerContext : ∃ t u, exec .incB endOfFrame = .next t ∧ u = stoppedState ∧ u.stopped ≠ t.stopped :=
  ⟨_, _, rfl, rfl, by decide⟩

theorem witness_CpuClockAdvance :
    (∃ t, endOfFrame.stopped = false ∧
      decode defaultParams.implSet (codeBytes endOfFrame) = .ok (.incB, [0x00#8, 0x00#8]) ∧
      stepWith defaultParams endOfFrame = .next t) ∧
    (∃ t, stoppedState.stopped = true ∧ stepWith defaultParams stoppedState = .next t) ∧
    (∃ t, stepWith defaultParams (at0 [0x76#8]) = .next t ∧ t.stopped = true) :=
  ⟨⟨_, rfl, rfl, rfl⟩, ⟨_, rfl, rfl⟩, ⟨_, rfl, rfl⟩⟩

theorem witness_CostIndependence :
    ∃ t u, defaultParams.implSet = { defaultParams with cycles := fun _ _ => 5 }.implSet ∧
      stepWith defaultParams endOfFrame = .next t ∧
      stepWith { defaultParams with cycles := fun _ _ => 5 } endOfFrame = .next u ∧ t ≠ u :=
  ⟨_, _, rfl, rfl, rfl, by decide⟩

/-- The default costs lie in 1 to 6 (R380), and one of them is 6. -/
theorem witness_RunFrameBound :
    (∀ (i : Instr) (b : Bool), 1 ≤ defaultParams.cycles i b ∧ defaultParams.cycles i b ≤ 6) ∧
    defaultParams.cycles (.call 0x0000#16) true = 6 ∧ stoppedState.stopped = true := by
  refine ⟨fun i b => ?_, rfl, rfl⟩
  cases i <;> cases b <;> simp [defaultParams, defaultCycles]

/-- R170 under the default costs: one INC B reaches a budget of one base cycle. -/
theorem witness_RunFrameBound_answers :
    (∃ t, runFrame { defaultParams with frameBudget := 1 } 1 endOfFrame = some (.next t)) ∧
    (∃ t, FrameRun { defaultParams with frameBudget := 1 } endOfFrame (.next t)) :=
  ⟨⟨_, rfl⟩, ⟨_, 1, rfl⟩⟩

/-- R170 under a cost of 0: JR -2 never raises the Clock, so the loop is not over after as many steps as its budget. -/
theorem test_runFrame_zero_costs :
    runFrame { defaultParams with cycles := fun _ _ => 0, frameBudget := 2 } 3 (at0 [0x18#8, 0xFE#8]) = none := by decide

/-- R170 under a cost of 0: a decode error on the third step ends a frame whose budget is one base cycle. -/
theorem test_runFrame_zero_costs_stops :
    (runFrame { defaultParams with cycles := fun _ _ => 0, frameBudget := 1 } 3 (at0 [0x04#8, 0x04#8, 0x76#8])).map
      (fun r => match r with | .next t => t.stopped | .fault _ => false | .refused _ => false) = some true := by decide

/-- The undefined bytes of XorA at both ends of each range. -/
theorem witness_XorA :
    (0xA0#8 ≤ 0xA0#8 ∧ 0xA0#8 ≤ 0xAE#8) ∧ (0xA0#8 ≤ 0xAE#8 ∧ 0xAE#8 ≤ 0xAE#8) ∧ (0xB0#8 ≤ 0xB7#8 ∧ 0xB7#8 ≤ 0xB7#8) ∧
    ¬(0xAF#8 ≤ 0xAE#8) := by decide

theorem witness_ReturnFromCall : 0xC0#8 ∈ [0xC0#8, 0xC8#8, 0xD0#8, 0xD8#8, 0xD9#8] ∧ 0xD9#8 ∈ [0xC0#8, 0xC8#8, 0xD0#8, 0xD8#8, 0xD9#8] := by
  decide

theorem witness_RotatePeriod : ({ State.reset with b := 0x01#8 }).reg8 .b = 0x01#8 ∧ State.reset.cFlag = false := by decide

/-- Both stack bytes in RAM, at the top of zero-page RAM, and one in RAM alone. -/
theorem witness_StackRoundTrip :
    (isRam (({ State.reset with sp := 0xFFFF#16 }).sp - 1#16) = true ∧
      isRam (({ State.reset with sp := 0xFFFF#16 }).sp - 2#16) = true) ∧
    (isRam (State.reset.sp - 1#16) = false ∧ isRam (State.reset.sp - 2#16) = true) := by decide

theorem witness_CallReturnRoundTrip :
    isRam (({ State.reset with sp := 0x8002#16 }).sp - 1#16) = true ∧
      isRam (({ State.reset with sp := 0x8002#16 }).sp - 2#16) = true := by decide

/-- Every clause of WriteMap at both ends of its range. -/
theorem witness_WriteMap :
    (0x7FFF#16).toNat < 0x8000 ∧ (0x8000 ≤ (0x8000#16).toNat ∧ (0x9FFF#16).toNat < 0xA000) ∧
    (0xA000 ≤ (0xA000#16).toNat ∧ (0xBFFF#16).toNat < 0xC000) ∧ (0xC000 ≤ (0xC000#16).toNat ∧ (0xFDFF#16).toNat < 0xFE00) ∧
    (0xFE00 ≤ (0xFE00#16).toNat ∧ (0xFF3F#16).toNat < 0xFF40) ∧ (0xFF40 ≤ (0xFF40#16).toNat ∧ (0xFF4B#16).toNat ≤ 0xFF4B) ∧
    (0xFF4C ≤ (0xFF4C#16).toNat ∧ (0xFF7F#16).toNat < 0xFF80) ∧ (0xFF80 ≤ (0xFF80#16).toNat ∧ (0xFFFE#16).toNat ≤ 0xFFFE) := by
  decide

theorem witness_EchoRam :
    (0xE000 ≤ (0xE000#16).toNat ∧ (0xE000#16).toNat < 0xFE00) ∧ (0xE000 ≤ (0xFDFF#16).toNat ∧ (0xFDFF#16).toNat < 0xFE00) := by
  decide

theorem witness_WordAccess :
    (isRam 0x8000#16 = true ∧ isRam (0x8000#16 + 1#16) = true) ∧ (isRam 0xFFFD#16 = true ∧ isRam (0xFFFD#16 + 1#16) = true) ∧
    isRam (0xFFFE#16 + 1#16) = false := by decide

theorem witness_VideoWriteDecodesOneRow : 0x1FFF < 0x2000 ∧ (0x1FFF &&& 0x1FFE) >>> 4 < 512 ∧ ((0x1FFF &&& 0x1FFE) >>> 1) &&& 7 < 8 := by
  decide

theorem witness_PpuRegisterAccess :
    0xFF4B#16 ∈ [0xFF40#16, 0xFF42#16, 0xFF43#16, 0xFF45#16, 0xFF47#16, 0xFF4A#16, 0xFF4B#16] ∧
    0xFF44#16 ∈ [0xFF41#16, 0xFF44#16, 0xFF46#16, 0xFF48#16, 0xFF49#16] ∧
    0xFF49#16 ∈ [0xFF41#16, 0xFF46#16, 0xFF48#16, 0xFF49#16] := by decide

/-- A count of 0 and of 1, and a PPU Clock one below and at the threshold. -/
theorem witness_ClockAndPpuStep :
    ((0 : Int) ≤ 0 ∧ (0 : Int) < 1) ∧
    (State.reset.ppuClock.tick 19).base < threshold State.reset.mode ∧
    threshold State.reset.mode ≤ (State.reset.ppuClock.tick 20).base := by decide

theorem witness_LeaveOamReadAndVramRead :
    State.reset.mode = .oamRead ∧ ({ endOfFrame with mode := .vramRead }).mode = .vramRead ∧
    LineMatchesMode { endOfFrame with mode := .vramRead } :=
  ⟨rfl, rfl, by change (143#8).toNat < 144; decide⟩

/-- A state in the vertical blank at a given line. -/
def verticalBlankAt (ly : Byte) : State :=
  { State.reset with mode := .verticalBlank, ppu := { PpuRegs.reset with ly := ly } }

theorem witness_LineAdvance :
    (endOfFrame.mode = .horizontalBlank ∧ endOfFrame.ppu.ly.toNat = 143) ∧
    (({ endOfFrame with ppu := { PpuRegs.reset with ly := 142#8 } }).mode = .horizontalBlank ∧ (142#8).toNat < 143) ∧
    ((verticalBlankAt 153#8).mode = .verticalBlank ∧ (verticalBlankAt 153#8).ppu.ly.toNat = 153) ∧
    ((verticalBlankAt 152#8).mode = .verticalBlank ∧ (verticalBlankAt 152#8).ppu.ly.toNat < 153) := by decide

theorem witness_DisplayDisabledAndTileIndex :
    State.reset.ppu.displayEnable = false ∧ (127#8).toNat < 128 ∧ ¬(128#8).toNat < 128 := by decide

theorem witness_RenderedScanline :
    (memWrite State.reset 0xFF40#16 0x80#8).ppu.displayEnable = true ∧ 159 < 160 ∧ 3 < 4 ∧
    defaultParams.tilesetPolarity = .direct ∧ { defaultParams with tilesetPolarity := .console }.tilesetPolarity = .console := by
  refine ⟨by decide, by decide, by decide, rfl, rfl⟩

/-- A display that is on, and a frame at its end. -/
theorem witness_PixelOutputAndStatus :
    (memWrite State.reset 0xFF40#16 0x80#8).ppu.displayEnable = true ∧
    (memWrite State.reset 0xFF40#16 0x80#8).ppu.ly.toNat < 144 ∧ endOfFrame.mode ≠ .verticalBlank ∧
    (ppuStep defaultParams 51 endOfFrame).mode = .verticalBlank := by decide

end Sys2Proof.Tests
end

section
/-! The bytes the decoder takes are those the encoder writes (30_encoding.md R140, R143, R161). -/

namespace Sys2Proof

/-! ## The encoding of each family of instructions is the bit pattern of its rule (R142) -/

@[simp] theorem encode_ldRegImm (r : Reg8) (n : Byte) :
    encode (.ldRegImm r n) = [fields 0b00#2 r.code 0b110#3, n] := by cases r <;> rfl
@[simp] theorem encode_ldPairImm (r : Reg16) (nn : Word) :
    encode (.ldPairImm r nn) = [fields 0b00#2 (pairField r.code) 0b001#3, loByte nn, hiByte nn] := by cases r <;> rfl
@[simp] theorem encode_ldRegAtHl (r : Reg8) : encode (.ldRegAtHl r) = [fields 0b01#2 r.code 0b110#3] := by
  cases r <;> rfl
@[simp] theorem encode_ldAtHlReg (r : Reg8) : encode (.ldAtHlReg r) = [fields 0b01#2 0b110#3 r.code] := by
  cases r <;> rfl
@[simp] theorem encode_ldRegReg (dst src : Reg8) :
    encode (.ldRegReg dst src) = [fields 0b01#2 dst.code src.code] := by cases dst <;> cases src <;> rfl
@[simp] theorem encode_incReg (r : Reg8) : encode (.incReg r) = [fields 0b00#2 r.code 0b100#3] := by cases r <;> rfl
@[simp] theorem encode_decReg (r : Reg8) : encode (.decReg r) = [fields 0b00#2 r.code 0b101#3] := by cases r <;> rfl
@[simp] theorem encode_incPair (r : Reg16) :
    encode (.incPair r) = [fields 0b00#2 (pairField r.code) 0b011#3] := by cases r <;> rfl
@[simp] theorem encode_addReg (r : Reg8) : encode (.addReg r) = [fields 0b10#2 0b000#3 r.code] := by cases r <;> rfl
@[simp] theorem encode_subReg (r : Reg8) : encode (.subReg r) = [fields 0b10#2 0b010#3 r.code] := by cases r <;> rfl
@[simp] theorem encode_cpReg (r : Reg8) : encode (.cpReg r) = [fields 0b10#2 0b111#3 r.code] := by cases r <;> rfl
@[simp] theorem encode_push (q : Pair) : encode (.push q) = [fields 0b11#2 (pairField q.code) 0b101#3] := by
  cases q <;> rfl
@[simp] theorem encode_pop (q : Pair) : encode (.pop q) = [fields 0b11#2 (pairField q.code) 0b001#3] := by
  cases q <;> rfl
@[simp] theorem encode_rlReg (r : Reg8) : encode (.rlReg r) = [escapeByte, fields 0b00#2 0b010#3 r.code] := by
  cases r <;> rfl
@[simp] theorem encode_bitReg (b : BitNo) (r : Reg8) :
    encode (.bitReg b r) = [escapeByte, fields 0b01#2 b.code r.code] := by cases b <;> cases r <;> rfl
@[simp] theorem encode_bitAtHl (b : BitNo) : encode (.bitAtHl b) = [escapeByte, fields 0b01#2 b.code 0b110#3] := by
  cases b <;> rfl

/-! ## The rows of the opcode tables agree with the encoder -/

/-- The bytes that select an opcode of a space: the escape byte stands before one of the extended space (R148). -/
def opcodeBytes : Space → Byte → List Byte
  | .primary, op => [op]
  | .extended, op => [escapeByte, op]

/-- The instructions of a form are encoded as its opcode bytes followed by the operand bytes the form takes. -/
def Form.EncodedAs (opcode : List Byte) : Form → Prop
  | .op i => encode i = opcode
  | .d8 k => ∀ n, encode (k n) = opcode ++ [n]
  | .d16 k => ∀ nn, encode (k nn) = opcode ++ [loByte nn, hiByte nn]

/-- A row of the table of a space selects instructions the encoder writes with the row's opcode. -/
def RowEncoded (sp : Space) (row : Byte × Form) : Prop := row.2.EncodedAs (opcodeBytes sp row.1)

@[simp] theorem Reg8.mem_all (r : Reg8) : r ∈ Reg8.all := by cases r <;> decide
@[simp] theorem Reg16.mem_all (r : Reg16) : r ∈ Reg16.all := by cases r <;> decide
@[simp] theorem Pair.mem_all (q : Pair) : q ∈ Pair.all := by cases q <;> decide
@[simp] theorem BitNo.mem_all (b : BitNo) : b ∈ BitNo.all := by cases b <;> decide

section
variable {P : Byte × Form → Prop}

theorem forall_mem_regRows {row : Reg8 → Byte × Form} : (∀ x ∈ regRows row, P x) ↔ ∀ r, P (row r) := by
  simp only [regRows, List.forall_mem_map, Reg8.mem_all, forall_true_left]
theorem forall_mem_reg16Rows {row : Reg16 → Byte × Form} : (∀ x ∈ reg16Rows row, P x) ↔ ∀ r, P (row r) := by
  simp only [reg16Rows, List.forall_mem_map, Reg16.mem_all, forall_true_left]
theorem forall_mem_pairRows {row : Pair → Byte × Form} : (∀ x ∈ pairRows row, P x) ↔ ∀ q, P (row q) := by
  simp only [pairRows, List.forall_mem_map, Pair.mem_all, forall_true_left]
theorem forall_mem_bitRows {row : BitNo → Byte × Form} : (∀ x ∈ bitRows row, P x) ↔ ∀ b, P (row b) := by
  simp only [bitRows, List.forall_mem_map, BitNo.mem_all, forall_true_left]

end

section
open List

theorem pointerLoadRows_encoded : ∀ row ∈ pointerLoadRows, RowEncoded .primary row := by
  simp only [pointerLoadRows, forall_mem_flatten, forall_mem_cons, forall_mem_regRows, forall_mem_reg16Rows]
  exact ⟨encode_ldRegImm, ⟨fun _ => rfl, nofun⟩, encode_ldPairImm, ⟨rfl, rfl, rfl, rfl, nofun⟩,
    ⟨rfl, rfl, nofun⟩, ⟨rfl, rfl, nofun⟩, nofun⟩

theorem registerLoadRows_encoded : ∀ row ∈ registerLoadRows, RowEncoded .primary row := by
  simp only [registerLoadRows, forall_mem_flatten, forall_mem_cons, forall_mem_flatMap, forall_mem_regRows]
  exact ⟨encode_ldRegAtHl, encode_ldAtHlReg, fun dst _ => encode_ldRegReg dst, nofun⟩

theorem incDecRows_encoded : ∀ row ∈ incDecRows, RowEncoded .primary row := by
  simp only [incDecRows, forall_mem_flatten, forall_mem_cons, forall_mem_regRows, forall_mem_reg16Rows]
  exact ⟨encode_incReg, encode_decReg, encode_incPair, ⟨rfl, nofun⟩, nofun⟩

theorem aluRows_encoded : ∀ row ∈ aluRows, RowEncoded .primary row := by
  simp only [aluRows, forall_mem_flatten, forall_mem_cons, forall_mem_regRows]
  exact ⟨encode_addReg, ⟨rfl, fun _ => rfl, nofun⟩, encode_subReg, ⟨rfl, fun _ => rfl, nofun⟩,
    encode_cpReg, ⟨rfl, fun _ => rfl, nofun⟩, ⟨rfl, rfl, nofun⟩, nofun⟩

theorem controlRows_encoded : ∀ row ∈ controlRows, RowEncoded .primary row := by
  simp only [controlRows, forall_mem_flatten, forall_mem_cons, forall_mem_pairRows]
  exact ⟨⟨fun _ => rfl, fun _ => rfl, fun _ => rfl, nofun⟩, ⟨fun _ => rfl, rfl, rfl, nofun⟩,
    encode_push, encode_pop, nofun⟩

theorem highPageRows_encoded : ∀ row ∈ highPageRows, RowEncoded .primary row := by
  simp only [highPageRows, forall_mem_cons]
  exact ⟨fun _ => rfl, fun _ => rfl, rfl, rfl, fun _ => rfl, fun _ => rfl, nofun⟩

theorem primaryTable_encoded : ∀ row ∈ primaryTable, RowEncoded .primary row := by
  simp only [primaryTable, forall_mem_flatten, forall_mem_cons]
  exact ⟨pointerLoadRows_encoded, registerLoadRows_encoded, incDecRows_encoded, aluRows_encoded,
    controlRows_encoded, highPageRows_encoded, nofun⟩

theorem extendedTable_encoded : ∀ row ∈ extendedTable, RowEncoded .extended row := by
  simp only [extendedTable, forall_mem_flatten, forall_mem_cons, forall_mem_flatMap, forall_mem_regRows,
    forall_mem_bitRows]
  exact ⟨encode_rlReg, fun b _ => encode_bitReg b, encode_bitAtHl, nofun⟩

end

theorem opcodeTable_encoded : ∀ sp : Space, ∀ row ∈ opcodeTable sp, RowEncoded sp row
  | .primary => primaryTable_encoded
  | .extended => extendedTable_encoded

/-- What a lookup finds is encoded with the opcode looked up, whatever the implemented set. -/
theorem encodedAs_of_lookupIn {impl : ImplSet} {sp : Space} {op : Byte} {form : Form}
    (h : lookupIn impl sp op = some form) : form.EncodedAs (opcodeBytes sp op) := by
  unfold lookupIn lookup at h
  split at h
  · obtain ⟨row, hfind, rfl⟩ := Option.map_eq_some_iff.1 h
    have hop : row.1 = op := by simpa using List.find?_some hfind
    exact hop ▸ opcodeTable_encoded sp row (List.mem_of_find?_eq_some hfind)
  · cases h

/-! ## The decoder takes the encoder's bytes -/

theorem encode_append_of_take {opcode : List Byte} {form : Form} (hform : form.EncodedAs opcode) {bs rest : List Byte}
    {i : Instr} (h : form.take bs = .ok (i, rest)) : encode i ++ rest = opcode ++ bs := by
  cases form with
  | op j =>
    cases h
    exact congrArg (· ++ bs) hform
  | d8 k =>
    obtain _ | ⟨n, bs⟩ := bs <;> cases h
    simp [hform n]
  | d16 k =>
    obtain _ | ⟨lo, _ | ⟨hi, bs⟩⟩ := bs <;> cases h
    simp [hform (wordOf hi lo)]

theorem encode_append_of_decodeOpcode {impl : ImplSet} {sp : Space} {op : Byte} {bs rest : List Byte} {i : Instr}
    (h : decodeOpcode impl sp op bs = .ok (i, rest)) : encode i ++ rest = opcodeBytes sp op ++ bs := by
  unfold decodeOpcode at h
  cases hl : lookupIn impl sp op with
  | none => rw [hl] at h; cases h
  | some form => rw [hl] at h; exact encode_append_of_take (encodedAs_of_lookupIn hl) h

/-- Bytes that decode are the encoding of the instruction, then what is left over (R140). -/
theorem encode_append_of_decode {impl : ImplSet} {bs rest : List Byte} {i : Instr} (h : decode impl bs = .ok (i, rest)) :
    encode i ++ rest = bs := by
  unfold decode at h
  cases bs with
  | nil => cases h
  | cons op bs =>
    by_cases hop : op = escapeByte
    · subst hop
      cases bs with
      | nil => cases h
      | cons op2 bs => exact encode_append_of_decodeOpcode h
    · simp only [hop, if_false] at h
      exact encode_append_of_decodeOpcode h

end Sys2Proof
end

section
/-! The fetches of a step read what the decoder reads from the bytes at PC (00_scope.md R24; 20_memory.md R93, R121;
40_execution.md R161). -/

namespace Sys2Proof.Machine

/-! ## Successive fetches -/

@[simp] theorem fetched_zero (s : State) : fetched 0 s = s := by simp [fetched, fetchesBootEnd]

theorem fetchesBootEnd_succ (n : Nat) (s : State) :
    fetchesBootEnd (n + 1) s = (fetchesBootEnd n s || s.pc + BitVec.ofNat 16 n == 0x0100#16) := by
  simp [fetchesBootEnd, List.range_succ]

/-- Once 0x0100 is among the bytes fetched, the next byte stands above the boot ROM. -/
theorem next_ge_of_fetchesBootEnd {n : Nat} {s : State} (hn : n < 0xFF00) (h : fetchesBootEnd n s = true) :
    0x100 ≤ (s.pc + BitVec.ofNat 16 n).toNat := by
  simp only [fetchesBootEnd, List.any_eq_true, List.mem_range, beq_iff_eq] at h
  obtain ⟨k, hk, hpc⟩ := h
  have hpc := congrArg BitVec.toNat hpc
  simp only [BitVec.toNat_add, BitVec.toNat_ofNat] at hpc ⊢
  omega

/-- The fetches before it do not change the byte at PC: the boot flag goes down only where the map stays the same. -/
theorem peek_fetched_pc {n : Nat} (s : State) (hn : n < 0xFF00) :
    peek (fetched n s) (s.pc + BitVec.ofNat 16 n) = peek s (s.pc + BitVec.ofNat 16 n) := by
  refine peek_congr _ _ _ ?_ rfl rfl rfl rfl rfl rfl
  cases hb : fetchesBootEnd n s
  · simp [fetched, hb]
  · exact route_of_ge _ _ _ (next_ge_of_fetchesBootEnd hn hb)

theorem fetch_fetched {n : Nat} (s : State) (hn : n < 0xFF00) :
    fetch (fetched n s) = (peek s (s.pc + BitVec.ofNat 16 n), fetched (n + 1) s) := by
  rw [fetch_eq, show (fetched n s).pc = s.pc + BitVec.ofNat 16 n from rfl, peek_fetched_pc s hn]
  simp [fetched, fetchesBootEnd_succ, BitVec.ofNat_add, BitVec.add_assoc, Bool.and_assoc]

/-! ## Decoding and fetching -/

/-- The bytes stand in memory from the `n`th byte after PC up. -/
def StandsAfterPc (s : State) : Nat → List Byte → Prop
  | _, [] => True
  | n, v :: vs => v = peek s (s.pc + BitVec.ofNat 16 n) ∧ StandsAfterPc s (n + 1) vs

theorem codeBytes_standsAfterPc (s : State) : StandsAfterPc s 0 (codeBytes s) := by
  simp [codeBytes, StandsAfterPc]

section
variable {s : State} {i : Instr} {rest : List Byte}

/-- The operands fetched are those the decoder takes, and as many bytes are fetched as it takes. -/
theorem fetchOperands_of_take {form : Form} {n : Nat} {bs : List Byte} (hbs : StandsAfterPc s n bs)
    (hlen : n + bs.length ≤ 3) (h : form.take bs = .ok (i, rest)) :
    ∃ k, bs.length = k + rest.length ∧ fetchOperands form (fetched n s) = (i, fetched (n + k) s) := by
  cases form with
  | op j =>
    cases h
    exact ⟨0, by simp, rfl⟩
  | d8 f =>
    obtain _ | ⟨v, bs⟩ := bs <;> cases h
    obtain ⟨rfl, -⟩ := hbs
    refine ⟨1, by simp [Nat.add_comm], ?_⟩
    simp only [List.length_cons] at hlen
    simp [fetchOperands, fetch_fetched s (show n < 0xFF00 by omega)]
  | d16 f =>
    obtain _ | ⟨lo, _ | ⟨hi, bs⟩⟩ := bs <;> cases h
    obtain ⟨rfl, rfl, -⟩ := hbs
    refine ⟨2, by simp only [List.length_cons]; omega, ?_⟩
    simp only [List.length_cons] at hlen
    simp [fetchOperands, fetch16, fetch_fetched s (show n < 0xFF00 by omega),
      fetch_fetched s (show n + 1 < 0xFF00 by omega)]

theorem dispatch_of_decodeOpcode {impl : ImplSet} {sp : Space} {op : Byte} {n : Nat} {bs : List Byte}
    (hbs : StandsAfterPc s n bs) (hlen : n + bs.length ≤ 3) (h : decodeOpcode impl sp op bs = .ok (i, rest)) :
    ∃ k, bs.length = k + rest.length ∧ dispatch impl sp op (fetched n s) = .instr i (fetched (n + k) s) := by
  unfold decodeOpcode at h
  unfold dispatch
  cases hl : lookupIn impl sp op with
  | none => rw [hl] at h; cases h
  | some form =>
    rw [hl] at h
    obtain ⟨k, hk, hf⟩ := fetchOperands_of_take hbs hlen h
    exact ⟨k, hk, by simp [hf]⟩

/-- Where the bytes at PC decode, a step fetches that instruction and exactly its bytes (R161). -/
theorem fetchInstr_of_decode {impl : ImplSet} (h : decode impl (codeBytes s) = .ok (i, rest)) :
    fetchInstr impl s = .instr i (fetched i.length s) := by
  obtain ⟨-, hbs1⟩ := codeBytes_standsAfterPc s
  have hlength : i.length + rest.length = 3 := by
    simpa [codeBytes, Instr.length] using congrArg List.length (encode_append_of_decode h)
  have hfetch : fetch s = (peek s s.pc, fetched 1 s) := by simpa using fetch_fetched (n := 0) s (by decide)
  unfold fetchInstr
  by_cases hop : peek s s.pc = escapeByte
  · have hd : decodeOpcode impl .extended (peek s (s.pc + 1#16)) [peek s (s.pc + 2#16)] = .ok (i, rest) := by
      simpa [decode, codeBytes, hop] using h
    obtain ⟨-, hbs2⟩ := hbs1
    obtain ⟨k, hk, hdispatch⟩ := dispatch_of_decodeOpcode (n := 2) hbs2 (by simp) hd
    have hlen : i.length = 2 + k := by simp only [List.length_singleton] at hk; omega
    simp [hfetch, hop, fetch_fetched s (show 1 < 0xFF00 by decide), hdispatch, hlen]
  · have hd : decodeOpcode impl .primary (peek s s.pc) [peek s (s.pc + 1#16), peek s (s.pc + 2#16)] = .ok (i, rest) := by
      simpa [decode, codeBytes, hop] using h
    obtain ⟨k, hk, hdispatch⟩ := dispatch_of_decodeOpcode (n := 1) hbs1 (by simp) hd
    have hlen : i.length = 1 + k := by simp only [List.length_cons, List.length_nil] at hk; omega
    simp [hfetch, hop, hdispatch, hlen]

end

/-- A step that fetches an instruction runs its handler and clocks CPU and PPU by the cost (R163 to R165). -/
theorem stepWith_of_fetchInstr {p : Params} {s s1 : State} {i : Instr} (hs : s.stopped = false)
    (hf : fetchInstr p.implSet s = .instr i s1) :
    stepWith p s =
      match exec i s1 with
      | .next s2 => .next (afterHandler p (handlerCost p i s1) s2)
      | .fault r => .fault r
      | .refused r => .refused r := by
  obtain ⟨h, -⟩ | ⟨-, _, _, _, h, -⟩ | ⟨-, j, t, h, hstep⟩ := stepWith_cases p s
  · rw [hs] at h; cases h
  · rw [hf] at h; cases h
  · rw [hf] at h; cases h
    exact hstep

/-- Settles O12: the fetches follow the decoder, so the step runs the instruction decoded at PC. -/
theorem stepRunsDecodedInstruction : Obligations.StepRunsDecodedInstruction := by
  unfold Obligations.StepRunsDecodedInstruction
  refine ⟨rfl, fun p s i rest hs hdecode => ?_⟩
  rw [stepWith_of_fetchInstr hs (fetchInstr_of_decode hdecode)]
  cases exec i (fetched i.length s) <;> rfl

end Sys2Proof.Machine
end

section
/-! The invariant: the clauses each operation of a handler and each PPU step keeps, and from them the whole of it
(10_state.md R42, R50, R63; 20_memory.md R87, R105; 60_exceptions.md R310, R321). -/

namespace Sys2Proof.Machine

/-! ## The flags -/

/-- F built from its four flag bits has its low four bits zero (R42). -/
theorem packFlags_lowZero : ∀ z n h c : Bool, packFlags z n h c &&& 0x0F#8 = 0x00#8 := by decide

/-! ## Byte writes -/

/-- A Video Memory write at `addr` keeps a byte that is not in the tile row of the written one. -/
theorem videoWrite_vram_get_of_row_ne {s : State} {addr k : Nat} {v : Byte} (h : k / 2 ≠ addr % 8192 / 2) :
    Cells.get unlistedByte (videoWrite s addr v).vram k = Cells.get unlistedByte s.vram k := by
  simp only [videoWrite, RegionShape.writeByte, videoRegion_index, Nat.mod_mod]
  exact Cells.get_set_other _ _ _ _ _ (by rintro rfl; exact h rfl)

theorem videoWrite_tilesMatch {s : State} (addr : Nat) (v : Byte) (h : TilesMatch s) :
    TilesMatch (videoWrite s addr v) := by
  intro t y x ht hy hx
  rw [tilePixel_videoWrite s addr v t y x hx]
  split
  · rfl
  · next hrow =>
    rw [h t y x ht hy hx, videoWrite_vram_get_of_row_ne (by omega), videoWrite_vram_get_of_row_ne (by omega)]

theorem memWrite_tilesMatch {s : State} (a : Word) (v : Byte) (h : TilesMatch s) : TilesMatch (memWrite s a v) := by
  rcases memWrite_cases s a v with ⟨-, hw⟩ | ⟨-, hw⟩ | ⟨-, hw⟩ | ⟨-, hw⟩ | ⟨-, hw⟩ <;> rw [hw]
  · exact videoWrite_tilesMatch _ _ h
  all_goals exact h

/-- No write moves LY (R57). -/
@[simp] theorem memWrite_ly (s : State) (a : Word) (v : Byte) : (memWrite s a v).ppu.ly = s.ppu.ly := by
  rcases memWrite_cases s a v with ⟨-, hw⟩ | ⟨-, hw⟩ | ⟨-, hw⟩ | ⟨-, hw⟩ | ⟨-, hw⟩ <;> simp [hw]

/-- Of the addresses routed to zero-page RAM, 0xFF80 to 0xFFFE, none names index 0x7F (R105). -/
theorem index_ne_top_of_route_zeroPage {booting : Bool} {a : Word} (h : route booting a = .zeroPage) :
    a.toNat % 128 ≠ 0x7F := by
  rcases route_cases booting a with hr | hr | hr | hr | hr | hr | hr | hr | hr
  · obtain ⟨-, hr⟩ := hr
    rw [h] at hr
    split at hr <;> cases hr
  all_goals simp only [h, reduceCtorEq, and_false] at hr
  omega

theorem memWrite_zeroPageTopClear {s : State} (a : Word) (v : Byte) (h : ZeroPageTopClear s) :
    ZeroPageTopClear (memWrite s a v) := by
  rcases memWrite_cases s a v with ⟨-, hw⟩ | ⟨-, hw⟩ | ⟨hr, hw⟩ | ⟨-, hw⟩ | ⟨-, hw⟩ <;> rw [hw]
  case inr.inr.inl =>
    exact (Cells.get_set_other _ _ _ _ _ (index_ne_top_of_route_zeroPage hr).symm).trans h
  all_goals exact h

theorem memWrite_invariant {s : State} (a : Word) (v : Byte) (h : Invariant s) : Invariant (memWrite s a v) where
  flags := by simpa [FlagsLowZero] using h.flags
  tiles := memWrite_tilesMatch a v h.tiles
  line := by simpa [LineMatchesMode] using h.line
  stores := memWrite_storesWf s a v h.stores
  cpuClock := by simpa using h.cpuClock
  ppuClock := by simpa using h.ppuClock
  ppuClockBelow := by simpa [PpuClockBelow] using h.ppuClockBelow
  stop := by simpa [StopRecorded] using h.stop
  zeroPageTop := memWrite_zeroPageTopClear a v h.zeroPageTop

/-! ## Handlers -/

/-- Of the registers and the boot flag, the invariant reads F alone. -/
theorem invariant_of_registers {s t : State} (h : Invariant s) (hf : FlagsLowZero t)
    (ht : t = { s with
      a := t.a, b := t.b, c := t.c, d := t.d, e := t.e, h := t.h, l := t.l, f := t.f, pc := t.pc, sp := t.sp
      bootFlag := t.bootFlag }) : Invariant t := by
  obtain ⟨-, htiles, hline, hstores, hcpu, hppu, hbelow, hstop, htop⟩ := h
  rw [ht]
  exact ⟨hf, htiles, hline, hstores, hcpu, hppu, hbelow, hstop, htop⟩

/-- Every operation a handler is made of keeps the invariant. -/
theorem stable_invariant : Stable Invariant where
  reg8 s r v h := invariant_of_registers h (by simpa [FlagsLowZero] using h.flags) (by cases r <;> rfl)
  pair s q v h := invariant_of_registers h (by simpa [FlagsLowZero] using h.flags) (by cases q <;> rfl)
  pc s v h := invariant_of_registers h h.flags rfl
  sp s v h := invariant_of_registers h h.flags rfl
  flags s z n h c hs := invariant_of_registers hs (packFlags_lowZero z n h c) rfl
  read s a h := memRead_snd s a ▸ invariant_of_registers h h.flags rfl
  write s a v h := memWrite_invariant a v h

theorem raiseDecodeError_invariant {s : State} (sp : Space) (op : Byte) (h : Invariant s) :
    Invariant (raiseDecodeError sp op s) := by
  obtain ⟨hflags, htiles, hline, hstores, hcpu, hppu, hbelow, -, htop⟩ := h
  exact ⟨hflags, htiles, hline, hstores, hcpu, hppu, hbelow, rfl, htop⟩

theorem tickCpu_invariant {s : State} (n : Int) (h : Invariant s) : Invariant (tickCpu n s) := by
  obtain ⟨hflags, htiles, hline, hstores, hcpu, hppu, hbelow, hstop, htop⟩ := h
  exact ⟨hflags, htiles, hline, hstores, tick_correlated _ _ hcpu, hppu, hbelow, hstop, htop⟩

/-! ## The PPU -/

theorem lineMatchesMode_outside_blank {s : State} (hm : s.mode ≠ .verticalBlank) :
    LineMatchesMode s ↔ s.ppu.ly.toNat < 144 := by
  unfold LineMatchesMode
  cases h : s.mode
  case verticalBlank => exact absurd h hm
  all_goals rfl

theorem lineMatchesMode_in_blank {s : State} (hm : s.mode = .verticalBlank) :
    LineMatchesMode s ↔ 144 ≤ s.ppu.ly.toNat ∧ s.ppu.ly.toNat ≤ 153 := by
  unfold LineMatchesMode
  rw [hm]

/-- A transition moves LY and the mode together (R50, R324, R326). -/
theorem transition_lineMatchesMode {s : State} (p : Params) (h : LineMatchesMode s) :
    LineMatchesMode (transition p s) := by
  rcases transition_cases p s with
    ⟨hm, ht⟩ | ⟨hm, ht⟩ | ⟨hm, hly, ht⟩ | ⟨hm, hly, ht⟩ | ⟨hm, hly, ht⟩ | ⟨hm, hly, ht⟩ <;> rw [ht]
  · exact (lineMatchesMode_outside_blank (s := s) (by simp [hm])).1 h
  · rw [lineMatchesMode_outside_blank (by simp [hm])] at h
    simpa [LineMatchesMode] using h
  · simp [LineMatchesMode, State.setLy, hly]
  · rw [lineMatchesMode_outside_blank (by simp [hm])] at h
    show (s.ppu.ly + 1#8).toNat < 144
    bv_omega
  · simp [LineMatchesMode, State.setLy]
  · rw [lineMatchesMode_in_blank hm] at h
    refine (lineMatchesMode_in_blank (s := s.setLy (s.ppu.ly + 1#8)) hm).2 ?_
    show 144 ≤ (s.ppu.ly + 1#8).toNat ∧ (s.ppu.ly + 1#8).toNat ≤ 153
    bv_omega

/-- The row of a scanline with LY below 144 lies inside the pixel buffer. -/
theorem renderScanline_storesWf {s : State} (p : Params) (hly : s.ppu.ly.toNat < 144) (h : StoresWf s) :
    StoresWf (renderScanline p s) := by
  unfold renderScanline
  split
  · obtain ⟨hboot, hcart, hvram, hwram, hzram, htiles, hpixels, hframes⟩ := h
    refine ⟨hboot, hcart, hvram, hwram, hzram, htiles, Cells.canonical_setBlock _ _ _ _ _ hpixels ?_, hframes⟩
    simp only [scanlineBytes_length, pixelBufferSize, screenW, screenH]
    omega
  · exact h

theorem transition_storesWf {s : State} (p : Params) (hline : LineMatchesMode s) (h : StoresWf s) :
    StoresWf (transition p s) := by
  rcases transition_cases p s with
    ⟨hm, ht⟩ | ⟨hm, ht⟩ | ⟨hm, hly, ht⟩ | ⟨hm, hly, ht⟩ | ⟨hm, hly, ht⟩ | ⟨hm, hly, ht⟩ <;> rw [ht]
  case inr.inl =>
    exact renderScanline_storesWf p ((lineMatchesMode_outside_blank (by simp [hm])).1 hline) h
  case inr.inr.inl =>
    obtain ⟨hboot, hcart, hvram, hwram, hzram, htiles, hpixels, hframes⟩ := h
    refine ⟨hboot, hcart, hvram, hwram, hzram, htiles, hpixels, ?_⟩
    simp only [List.forall_mem_append, List.forall_mem_singleton]
    exact ⟨hframes, hpixels⟩
  all_goals exact h

theorem ppuStep_lineMatchesMode {s : State} (p : Params) (n : Int) (h : LineMatchesMode s) :
    LineMatchesMode (ppuStep p n s) := by
  rcases ppuStep_cases p n s with ⟨-, ht⟩ | ⟨-, ht⟩ <;> rw [ht]
  · exact h
  · exact transition_lineMatchesMode p h

theorem ppuStep_storesWf {s : State} (p : Params) (n : Int) (hline : LineMatchesMode s) (h : StoresWf s) :
    StoresWf (ppuStep p n s) := by
  rcases ppuStep_cases p n s with ⟨-, ht⟩ | ⟨-, ht⟩ <;> rw [ht]
  · exact h
  · exact transition_storesWf p hline h

theorem ppuStep_correlated {s : State} (p : Params) (n : Int) (h : s.ppuClock.Correlated) :
    (ppuStep p n s).ppuClock.Correlated := by
  rcases ppuStep_cases p n s with ⟨-, ht⟩ | ⟨-, ht⟩ <;> rw [ht]
  · exact tick_correlated _ n h
  · rw [transition_ppuClock]
    rfl

theorem threshold_pos (m : PpuMode) : 0 < threshold m := by cases m <;> decide

/-- Whatever the PPU Clock was, a PPU step leaves it below the threshold of the mode (R321). -/
theorem ppuStep_ppuClockBelow (p : Params) (n : Int) (s : State) : PpuClockBelow (ppuStep p n s) := by
  unfold PpuClockBelow
  rcases ppuStep_cases p n s with ⟨hlt, ht⟩ | ⟨-, ht⟩ <;> rw [ht]
  · exact hlt
  · rw [transition_ppuClock]
    exact threshold_pos _

/-- A PPU step keeps the invariant, and brings its clause about the PPU Clock's threshold back. -/
theorem ppuStep_invariant {s : State} (p : Params) (n : Int) (hflags : FlagsLowZero s) (htiles : TilesMatch s)
    (hline : LineMatchesMode s) (hstores : StoresWf s) (hcpu : s.cpuClock.Correlated) (hppu : s.ppuClock.Correlated)
    (hstop : StopRecorded s) (htop : ZeroPageTopClear s) : Invariant (ppuStep p n s) where
  flags := by simpa [FlagsLowZero] using hflags
  tiles := by simpa [TilesMatch] using htiles
  line := ppuStep_lineMatchesMode p n hline
  stores := ppuStep_storesWf p n hline hstores
  cpuClock := by simpa using hcpu
  ppuClock := ppuStep_correlated p n hppu
  ppuClockBelow := ppuStep_ppuClockBelow p n s
  stop := by simpa [StopRecorded] using hstop
  zeroPageTop := by simpa [ZeroPageTopClear] using htop

theorem afterHandler_invariant {s : State} (p : Params) (cost : Nat) (h : Invariant s) :
    Invariant (afterHandler p cost s) := by
  obtain ⟨hflags, htiles, hline, hstores, hcpu, hppu, -, hstop, htop⟩ := tickCpu_invariant cost h
  exact ppuStep_invariant p cost hflags htiles hline hstores hcpu hppu hstop htop

/-! ## A step of the system -/

/-- Settles O4: the fetches and the handler keep the invariant operation by operation, the clocking after them by the PPU
step's clauses, and the decode error sets the stop flag together with its record. -/
theorem invariantKeptByStep : Obligations.InvariantKeptByStep := by
  unfold Obligations.InvariantKeptByStep
  intro p s t h hstep
  rcases stepWith_cases p s with ⟨-, hs⟩ | ⟨-, sp, op, s1, hfetch, hs⟩ | ⟨-, i, s1, hfetch, hs⟩ <;> rw [hs] at hstep
  · cases hstep
    exact h
  · cases hstep
    exact raiseDecodeError_invariant sp op ((stable_invariant.fetchInstr p.implSet h).2 sp op s1 hfetch)
  · have h1 : Invariant s1 := (stable_invariant.fetchInstr p.implSet h).1 i s1 hfetch
    cases hexec : exec i s1 with
    | next s2 =>
      rw [hexec] at hstep
      cases hstep
      exact afterHandler_invariant p _ (stable_invariant.exec i h1 hexec)
    | fault r => exact nomatch r
    | refused r => rw [hexec] at hstep; cases hstep

/-! ## Reset -/

/-- A row of two zero bytes has zero pixels. -/
theorem rowPixel_zero (x : Nat) : rowPixel 0x00#8 0x00#8 x = 0#2 := by simp [rowPixel, bitSet]

/-- After a reset the stores but the ROM regions list nothing, and the tile cache of an empty Video Memory is empty. -/
theorem hostReset_invariant (s : State) : Invariant (hostReset s) where
  flags := show 0x00#8 &&& 0x0F#8 = 0x00#8 by decide
  tiles := fun _ _ x _ _ _ => (rowPixel_zero x).symm
  line := by simp [LineMatchesMode, hostReset, State.reset, PpuRegs.reset]
  stores := ⟨restore_wf _ _, restore_wf _ _, rfl, rfl, rfl, rfl, rfl, nofun⟩
  cpuClock := rfl
  ppuClock := rfl
  ppuClockBelow := threshold_pos _
  stop := rfl
  zeroPageTop := rfl

/-- Construction without images is a reset without images. -/
theorem reset_eq_hostReset : State.reset = hostReset State.reset := rfl

/-- Settles O3: State.reset is the result of a reset. -/
theorem invariantAtReset : Obligations.InvariantAtReset := by
  unfold Obligations.InvariantAtReset
  rw [reset_eq_hostReset]
  exact hostReset_invariant State.reset

end Sys2Proof.Machine
end

section
/-! The value of every piece of state after a reset (10_state.md R61 to R68). -/

namespace Sys2Proof.Machine

/-- Every PPU Register reads 0x00 after a reset (R61). -/
theorem ppuRegRead_reset (addr : Nat) : ppuRegRead .reset addr = 0x00#8 := by
  unfold ppuRegRead
  repeat' split
  all_goals rfl

/-- Only the PPU Registers' addresses are routed to them. -/
theorem route_eq_ppuRegs_iff (booting : Bool) (x : Word) : route booting x = .ppuRegs ↔ isPpuReg x = true := by
  simp only [isPpuReg, decide_eq_true_eq]
  rcases route_cases booting x with h | h | h | h | h | h | h | h | h
  · have hr : route booting x ≠ .ppuRegs := by rw [h.2]; split <;> simp
    simp only [hr, false_iff]
    omega
  all_goals simp [h]; try omega

theorem peek_of_isPpuReg {s : State} {x : Word} (h : isPpuReg x = true) : peek s x = ppuRegRead s.ppu x.toNat := by
  unfold peek
  rw [(route_eq_ppuRegs_iff s.bootFlag x).2 h]

/-- Settles O1: the ROM regions are restored from the images, a PPU Register of the reset reads 0x00, and the other
clauses are fields of the reset state. -/
theorem resetValues : Obligations.ResetValues := by
  unfold Obligations.ResetValues
  refine ⟨reset_eq_hostReset, fun s => ⟨⟨rfl, rfl, rfl, rfl, rfl, rfl, rfl, rfl, rfl, rfl⟩, ⟨rfl, rfl, rfl⟩,
    ⟨rfl, rfl, rfl⟩, fun k => ⟨rfl, rfl, rfl, rfl⟩, ?boot, ?cart, fun t y x => rfl, ?ppu, rfl, rfl, rfl⟩⟩
  case boot => exact fun k hk => restore_get bootRegion s.bootImage k hk
  case cart => exact fun k hk => restore_get cartRegion s.cartImage k hk
  case ppu => exact fun x hx => (peek_of_isPpuReg hx).trans (ppuRegRead_reset x.toNat)

end Sys2Proof.Machine
end

section
/-! Relative jumps (45_control.md R239 to R242). -/

namespace Sys2Proof.Machine

/-- The displacement is the byte read as a signed number (R239). -/
theorem displacement_eq_toInt (e : Byte) : displacement e = e.toInt := by
  rw [displacement, BitVec.toInt_eq_toNat_cond]
  split <;> split <;> omega

/-- The jump's target modulo 2^16 is PC plus the sign-extended byte (R239; 10_state.md R37). -/
theorem ofInt_pc_add_displacement (pc : Word) (e : Byte) :
    BitVec.ofInt 16 ((pc.toNat : Int) + displacement e) = pc + e.signExtend 16 := by
  rw [displacement_eq_toInt, BitVec.ofInt_add, BitVec.ofInt_natCast, BitVec.ofNat_toNat, BitVec.setWidth_eq]
  rfl

/-- A conditional relative jump writes PC alone. -/
theorem jumpRelIf_eq (cond : Bool) (e : Byte) (s : State) :
    jumpRelIf cond e s = .next { s with pc := if cond then s.pc + e.signExtend 16 else s.pc } := by
  cases cond
  · rfl
  · simp only [jumpRelIf, jumpRel, ofInt_pc_add_displacement, if_true]

/-- Settles O39: the three instructions are `jumpRelIf` under their conditions. -/
theorem relativeJump : Obligations.RelativeJump := by
  unfold Obligations.RelativeJump
  refine ⟨fun e s => ofInt_pc_add_displacement s.pc e, fun s => rfl, fun e s => ⟨rfl, rfl, rfl, ?_, ?_, ?_⟩⟩
  · exact jumpRelIf_eq true e s
  · refine (jumpRelIf_eq (!s.zFlag) e s).trans ?_
    cases s.zFlag <;> rfl
  · exact jumpRelIf_eq s.zFlag e s

end Sys2Proof.Machine
end

section
/-! The PPU Registers behind the MMU (10_state.md R52 to R60). -/

namespace Sys2Proof.Machine

theorem bitSet_eq_getLsbD (v : Byte) (k : Nat) : bitSet v k = v.getLsbD k := by
  rw [bitSet, BitVec.and_one_eq_setWidth_ofBool_getLsbD, BitVec.getLsbD_ushiftRight, Nat.add_zero]
  cases v.getLsbD k <;> rfl

/-- LCDC recomposed from the fields a write stored is the byte written (R53). -/
theorem lcdc_setLcdc (r : PpuRegs) (v : Byte) : (r.setLcdc v).lcdc = v := by
  simp only [PpuRegs.lcdc, PpuRegs.setLcdc, bitSet_eq_getLsbD]
  ext i hi
  simp only [BitVec.getElem_append]
  interval_cases i <;> simp

/-- BGP composed from the entries a write set is the byte written (R59). -/
theorem bgp_setBgp (r : PpuRegs) (v : Byte) : (r.setBgp v).bgp = v := by
  simp only [PpuRegs.bgp, PpuRegs.setBgp]
  ext i hi
  simp only [BitVec.getElem_append]
  interval_cases i <;> simp

/-- The PPU Registers that hold a field a write reaches: LCDC, SCY, SCX, LYC, BGP, WY, WX (R52). -/
def writableRegs : List Word := [0xFF40#16, 0xFF42#16, 0xFF43#16, 0xFF45#16, 0xFF47#16, 0xFF4A#16, 0xFF4B#16]

/-- LY, which ignores a write (R57), and the addresses of the range that hold no register (R55). -/
def unwritableRegs : List Word := [0xFF41#16, 0xFF44#16, 0xFF46#16, 0xFF48#16, 0xFF49#16]

theorem isPpuReg_of_mem_writableRegs : ∀ x ∈ writableRegs, isPpuReg x = true :=
  List.all_eq_true.1 (by decide)

theorem isPpuReg_of_mem_unwritableRegs : ∀ x ∈ unwritableRegs, isPpuReg x = true :=
  List.all_eq_true.1 (by decide)

/-- A register that holds a field reads back what was written. -/
theorem ppuRegRead_write_same (r : PpuRegs) (v : Byte) :
    ∀ x ∈ writableRegs, ppuRegRead (ppuRegWrite r x.toNat v) x.toNat = v := by
  simp only [writableRegs, List.forall_mem_cons]
  exact ⟨lcdc_setLcdc r v, rfl, rfl, rfl, bgp_setBgp r v, rfl, rfl, nofun⟩

theorem ppuRegWrite_ignored (r : PpuRegs) (v : Byte) : ∀ x ∈ unwritableRegs, ppuRegWrite r x.toNat v = r := by
  simp only [unwritableRegs, List.forall_mem_cons]
  exact ⟨rfl, rfl, rfl, rfl, rfl, nofun⟩

theorem memWrite_of_isPpuReg {x : Word} (s : State) (v : Byte) (h : isPpuReg x = true) :
    memWrite s x v = { s with ppu := ppuRegWrite s.ppu x.toNat v } := by
  unfold memWrite
  rw [(route_eq_ppuRegs_iff s.bootFlag x).2 h]

/-- An address of the range is the only one that names its byte. -/
theorem eq_of_cellOf_eq_of_isPpuReg {booting : Bool} {x y : Word} (hx : isPpuReg x = true)
    (h : cellOf booting y = cellOf booting x) : y = x := by
  obtain ⟨hroute, hindex⟩ := Prod.mk.inj h
  rw [hroute, (route_eq_ppuRegs_iff booting x).2 hx] at hindex
  exact BitVec.eq_of_toNat_eq hindex

theorem peek_memWrite_writableReg (s : State) (v : Byte) {x : Word} (hx : x ∈ writableRegs) :
    peek (memWrite s x v) x = v ∧ ∀ y : Word, y ≠ x → peek (memWrite s x v) y = peek s y := by
  have hreg := isPpuReg_of_mem_writableRegs x hx
  constructor
  · rw [memWrite_of_isPpuReg s v hreg, peek_of_isPpuReg hreg]
    exact ppuRegRead_write_same s.ppu v x hx
  · exact fun y hy => peek_memWrite_other s x y v fun h => hy (eq_of_cellOf_eq_of_isPpuReg hreg h)

theorem memWrite_unwritableReg (s : State) (v : Byte) {x : Word} (hx : x ∈ unwritableRegs) : memWrite s x v = s := by
  rw [memWrite_of_isPpuReg s v (isPpuReg_of_mem_unwritableRegs x hx), ppuRegWrite_ignored s.ppu v x hx]

theorem memWrite_lcdc (s : State) (v : Byte) : (memWrite s 0xFF40#16 v).ppu = s.ppu.setLcdc v := by
  rw [memWrite_of_isPpuReg s v (by decide)]
  rfl

theorem memWrite_bgp (s : State) (v : Byte) : (memWrite s 0xFF47#16 v).ppu = s.ppu.setBgp v := by
  rw [memWrite_of_isPpuReg s v (by decide)]
  rfl

/-- The four entries of BGP are its base-4 digits (R59). -/
theorem setBgp_toNat (r : PpuRegs) (v : Byte) :
    (r.setBgp v).pal0.toNat = v.toNat % 4 ∧ (r.setBgp v).pal1.toNat = v.toNat / 4 % 4 ∧
    (r.setBgp v).pal2.toNat = v.toNat / 16 % 4 ∧ (r.setBgp v).pal3.toNat = v.toNat / 64 := by
  have hlt : v.toNat < 256 := v.isLt
  simp only [PpuRegs.setBgp, BitVec.toNat_setWidth, BitVec.toNat_ushiftRight, Nat.shiftRight_eq_div_pow, true_and]
  omega

/-- Settles O54: writes to the writable registers and to the others, reads of LY and of the addresses without a
register, and the fields LCDC and BGP set. -/
theorem ppuRegisterAccess : Obligations.PpuRegisterAccess := by
  unfold Obligations.PpuRegisterAccess
  refine ⟨fun s v x hx => peek_memWrite_writableReg s v hx, fun s v x hx => memWrite_unwritableReg s v hx,
    fun s => ⟨peek_of_isPpuReg (by decide), ?_⟩, fun s v => ?_, fun s v => ?_⟩
  · simp only [List.forall_mem_cons]
    exact ⟨peek_of_isPpuReg (by decide), peek_of_isPpuReg (by decide), peek_of_isPpuReg (by decide),
      peek_of_isPpuReg (by decide), nofun⟩
  · rw [memWrite_lcdc]
    simp only [PpuRegs.setLcdc, bitSet_eq_getLsbD]
  · rw [memWrite_bgp]
    exact setBgp_toNat s.ppu v

end Sys2Proof.Machine
end

section
/-! What a rendered scanline holds, and what the host reads of it (60_exceptions.md R325, R331, R333, R335;
10_state.md R66). -/

namespace Sys2Proof.Machine

/-! ## The scanline's bytes -/

/-- The tile column of background column `n` of a map row. -/
def tileColumn (n : Nat) : Nat := n / 8 % 32

/-- The four bytes of the pixel that shows background column `n` (R331, R333). -/
def pixelBytes (p : Params) (s : State) (rowbase row n : Nat) : List Byte :=
  let g := grayAt p s (tileAt p s rowbase (tileColumn n)) row (n % 8)
  [g, g, g, 255#8]

/-- The loop of the renderer, entered at background column `n`. -/
def scanFrom (p : Params) (s : State) (rowbase row count n : Nat) : List Byte :=
  scanLoop p s rowbase row count (n % 8) (tileColumn n) (tileAt p s rowbase (tileColumn n))

/-- One turn of the loop emits the pixel and goes on at the next background column. -/
theorem scanFrom_succ (p : Params) (s : State) (rowbase row count n : Nat) :
    scanFrom p s rowbase row (count + 1) n =
      pixelBytes p s rowbase row n ++ scanFrom p s rowbase row count (n + 1) := by
  unfold scanFrom
  rw [scanLoop]
  by_cases h : n % 8 + 1 = 8
  · have hcol : (n + 1) % 8 = 0 := by omega
    have htcol : tileColumn (n + 1) = (tileColumn n + 1) % 32 := by unfold tileColumn; omega
    rw [if_pos h, hcol, htcol]
    rfl
  · have hcol : (n + 1) % 8 = n % 8 + 1 := by omega
    have htcol : tileColumn (n + 1) = tileColumn n := by unfold tileColumn; omega
    rw [if_neg h, hcol, htcol]
    rfl

/-- Pixel `x` of the loop shows background column `n + x`. -/
theorem scanFrom_getElem? (p : Params) (s : State) (rowbase row : Nat) {ch : Nat} (hch : ch < 4) :
    ∀ {count n x : Nat}, x < count →
      (scanFrom p s rowbase row count n)[4 * x + ch]? = (pixelBytes p s rowbase row (n + x))[ch]? := by
  intro count
  induction count with
  | zero => exact fun hx => absurd hx (Nat.not_lt_zero _)
  | succ count ih =>
    intro n x hx
    have hlen : (pixelBytes p s rowbase row n).length = 4 := rfl
    rw [scanFrom_succ]
    cases x with
    | zero => rw [List.getElem?_append_left (by omega), Nat.mul_zero, Nat.zero_add, Nat.add_zero]
    | succ x =>
      rw [List.getElem?_append_right (by omega), hlen, show 4 * (x + 1) + ch - 4 = 4 * x + ch by omega,
        ih (by omega), show n + 1 + x = n + (x + 1) by omega]

/-- The background row of the scanline at LY (R331). -/
def backgroundRow (r : PpuRegs) : Nat := (r.ly.toNat + r.scy.toNat) % 256

theorem scanlineBytes_eq (p : Params) (s : State) :
    scanlineBytes p s =
      scanFrom p s (mapBase s.ppu + backgroundRow s.ppu / 8 * 32) (backgroundRow s.ppu % 8) 160 s.ppu.scx.toNat := by
  simp only [scanlineBytes, BitVec.toNat_add]
  rfl

/-- The gray level of pixel `x` of the scanline (R331, R333). -/
def scanlineGray (p : Params) (s : State) (x : Nat) : Byte :=
  grayAt p s (tileAt p s (mapBase s.ppu + backgroundRow s.ppu / 8 * 32) (tileColumn (s.ppu.scx.toNat + x)))
    (backgroundRow s.ppu % 8) ((s.ppu.scx.toNat + x) % 8)

theorem scanlineBytes_getElem? (p : Params) (s : State) {x ch : Nat} (hx : x < 160) (hch : ch < 4) :
    (scanlineBytes p s)[4 * x + ch]? = some (if ch = 3 then 255#8 else scanlineGray p s x) := by
  rw [scanlineBytes_eq, scanFrom_getElem? p s _ _ hch hx]
  unfold pixelBytes scanlineGray
  interval_cases ch <;> rfl

/-- With the display on, a rendered row of the buffer holds the scanline's bytes. -/
theorem renderScanline_pixels_inside {p : Params} {s : State} (hd : s.ppu.displayEnable = true) {x ch : Nat}
    (hx : x < 160) (hch : ch < 4) :
    Cells.get unlistedByte (renderScanline p s).pixels ((s.ppu.ly.toNat * 160 + x) * 4 + ch) =
      if ch = 3 then 255#8 else scanlineGray p s x := by
  have hindex : (s.ppu.ly.toNat * 160 + x) * 4 + ch = s.ppu.ly.toNat * screenW * 4 + (4 * x + ch) := by
    unfold screenW; omega
  simp only [renderScanline, hd, if_true]
  rw [hindex, Cells.get_setBlock_inside _ _ _ _ _ (by rw [scanlineBytes_length]; omega), List.getD_eq_getElem?_getD,
    scanlineBytes_getElem? p s hx hch, Option.getD_some]

/-- Every other row of the buffer is kept. -/
theorem renderScanline_pixels_outside {p : Params} {s : State} {k : Nat} (hk : k / 640 ≠ s.ppu.ly.toNat) :
    Cells.get unlistedByte (renderScanline p s).pixels k = Cells.get unlistedByte s.pixels k := by
  unfold renderScanline
  split
  · refine Cells.get_setBlock_outside _ _ _ _ _ ?_
    rw [scanlineBytes_length, screenW]
    omega
  · rfl

/-- Pixel `x` of the scanline written as the coordinates of the background, modulo 256 (R331). -/
theorem scanlineGray_eq (p : Params) (s : State) (x : Nat) :
    scanlineGray p s x =
      p.grayLevels (s.ppu.palette (tilePixel s.tiles
        (tileIndex (tilesetSel p s.ppu) (Cells.get unlistedByte s.vram
          ((if s.ppu.bgMapSel then 0x1C00 else 0x1800) + (s.ppu.ly.toNat + s.ppu.scy.toNat) % 256 / 8 * 32 +
            (s.ppu.scx.toNat + x) % 256 / 8)))
        ((s.ppu.ly.toNat + s.ppu.scy.toNat) % 8) ((s.ppu.scx.toNat + x) % 8))) := by
  have hcol : tileColumn (s.ppu.scx.toNat + x) = (s.ppu.scx.toNat + x) % 256 / 8 := by unfold tileColumn; omega
  have hrow : backgroundRow s.ppu % 8 = (s.ppu.ly.toNat + s.ppu.scy.toNat) % 8 := by unfold backgroundRow; omega
  rw [scanlineGray, hcol, hrow]
  rfl

/-- Settles O59: the loop of the renderer, read at pixel `x`, and the frame of the row it is written to. -/
theorem renderedScanline : Obligations.RenderedScanline := by
  unfold Obligations.RenderedScanline
  refine ⟨fun p r => ⟨fun h => by rw [tilesetSel, h], fun h => by rw [tilesetSel, h]⟩, fun p s hd =>
    ⟨renderScanline_frame p s, fun k hk => renderScanline_pixels_outside hk, fun x ch hx hch => ?_⟩⟩
  rw [renderScanline_pixels_inside hd hx hch, scanlineGray_eq]

/-! ## What the host reads -/

theorem flatBytes_getElem? (m : Memory) {k : Nat} (hk : k < pixelBufferSize) :
    (flatBytes m)[k]? = some (Cells.get unlistedByte m k) := by
  simp [flatBytes, hk]

/-- The four bytes a host reads from index `k` up. -/
theorem flatBytes_drop_take (m : Memory) {k : Nat} (hk : k + 4 ≤ pixelBufferSize) :
    ((flatBytes m).drop k).take 4 =
      [Cells.get unlistedByte m k, Cells.get unlistedByte m (k + 1), Cells.get unlistedByte m (k + 2),
        Cells.get unlistedByte m (k + 3)] := by
  have hrange : ((List.range pixelBufferSize).drop k).take 4 = [k, k + 1, k + 2, k + 3] := by
    obtain ⟨m, hm⟩ : ∃ m, pixelBufferSize - k = m + 4 := Nat.exists_eq_add_of_le' (by omega)
    simp [List.range_eq_range', List.drop_range', hm, List.range'_succ]
  rw [flatBytes, ← List.map_drop, ← List.map_take, hrange]
  rfl

/-- After a reset the host reads zeroes (R66). -/
theorem readPixels_hostReset (s : State) : readPixels (hostReset s) = List.replicate 92160 0x00#8 := by
  refine List.eq_replicate_iff.2 ⟨flatBytes_length _, fun b hb => ?_⟩
  obtain ⟨k, -, rfl⟩ := List.mem_map.1 hb
  rfl

/-- A rendered pixel reads as its gray level three times, then 255 (R331). -/
theorem readPixels_renderScanline {p : Params} {s : State} {x : Nat} (hd : s.ppu.displayEnable = true)
    (hly : s.ppu.ly.toNat < 144) (hx : x < 160) :
    ((readPixels (renderScanline p s)).drop ((s.ppu.ly.toNat * 160 + x) * 4)).take 4 =
      [scanlineGray p s x, scanlineGray p s x, scanlineGray p s x, 255#8] := by
  have hinside {ch : Nat} (hch : ch < 4) := renderScanline_pixels_inside (p := p) hd hx hch
  rw [readPixels, flatBytes_drop_take _ (by simp only [pixelBufferSize, screenW, screenH]; omega),
    hinside (ch := 1) (by decide), hinside (ch := 2) (by decide), hinside (ch := 3) (by decide),
    ← Nat.add_zero ((s.ppu.ly.toNat * 160 + x) * 4), hinside (ch := 0) (by decide)]
  rfl

/-- The transition into the vertical blank, and no other, hands over the buffer (R325). -/
theorem transition_frames (p : Params) (s : State) :
    (transition p s).frames =
      if s.mode ≠ .verticalBlank ∧ (transition p s).mode = .verticalBlank then s.frames ++ [s.pixels] else s.frames := by
  rcases transition_cases p s with
    ⟨hm, ht⟩ | ⟨hm, ht⟩ | ⟨hm, -, ht⟩ | ⟨hm, -, ht⟩ | ⟨hm, -, ht⟩ | ⟨hm, -, ht⟩ <;> simp [ht, hm]

/-- Only the transition out of VRAM_READ changes the buffer, and it does not enter the vertical blank (R323, R325). -/
theorem transition_pixels {p : Params} {s : State} (h : (transition p s).mode = .verticalBlank) :
    (transition p s).pixels = s.pixels := by
  rcases transition_cases p s with
    ⟨hm, ht⟩ | ⟨hm, ht⟩ | ⟨hm, -, ht⟩ | ⟨hm, -, ht⟩ | ⟨hm, -, ht⟩ | ⟨hm, -, ht⟩ <;> rw [ht] at h ⊢
  case inr.inl => cases h
  all_goals rfl

theorem ppuStep_frames (p : Params) (n : Int) (s : State) :
    (ppuStep p n s).frames =
      if s.mode ≠ .verticalBlank ∧ (ppuStep p n s).mode = .verticalBlank then s.frames ++ [s.pixels] else s.frames := by
  rcases ppuStep_cases p n s with ⟨-, ht⟩ | ⟨-, ht⟩ <;> rw [ht]
  · exact (if_neg fun h => h.1 h.2).symm
  · exact transition_frames p { s with ppuClock := .zero }

theorem ppuStep_pixels {p : Params} {n : Int} {s : State} (h : (ppuStep p n s).mode = .verticalBlank) :
    (ppuStep p n s).pixels = s.pixels := by
  rcases ppuStep_cases p n s with ⟨-, ht⟩ | ⟨-, ht⟩ <;> rw [ht] at h ⊢
  exact transition_pixels h

/-- Settles O60: the flat reading of the buffer, of a rendered pixel in it and of the frames a PPU step hands over. -/
theorem pixelOutputAndStatus : Obligations.PixelOutputAndStatus := by
  unfold Obligations.PixelOutputAndStatus
  refine ⟨fun s => ⟨flatBytes_length _, fun y x ch hy hx hch => ?_, readPixels_hostReset s, rfl, rfl, rfl⟩,
    fun p s x hd hly hx => ⟨_, readPixels_renderScanline hd hly hx⟩,
    fun p n s => ⟨?_, fun h => congrArg flatBytes (ppuStep_pixels h)⟩⟩
  · exact flatBytes_getElem? _ (by simp only [pixelBufferSize, screenW, screenH]; omega)
  · rw [ppuStep_frames, apply_ite (List.map flatBytes), List.map_append]
    rfl

end Sys2Proof.Machine
end

section
/-! Properties kept by a whole step, and the tile cache as one of them (20_memory.md R87; 40_execution.md R167). -/

namespace Sys2Proof.Machine

/-! ## What a step keeps -/

/-- A property that the operations of a handler, the decode error and the clocking after a handler keep is kept by a
step. -/
theorem Stable.stepWith {P : State → Prop} (hP : Stable P) {p : Params}
    (herror : ∀ sp op s, P s → P (raiseDecodeError sp op s)) (hclock : ∀ cost s, P s → P (afterHandler p cost s))
    (s t : State) (h : P s) (hstep : Machine.stepWith p s = .next t) : P t := by
  rcases stepWith_cases p s with ⟨-, hs⟩ | ⟨-, sp, op, s1, hfetch, hs⟩ | ⟨-, i, s1, hfetch, hs⟩ <;> rw [hs] at hstep
  · cases hstep
    exact h
  · cases hstep
    exact herror sp op s1 ((hP.fetchInstr p.implSet h).2 sp op s1 hfetch)
  · have h1 : P s1 := (hP.fetchInstr p.implSet h).1 i s1 hfetch
    cases hexec : Machine.exec i s1 with
    | next s2 =>
      rw [hexec] at hstep
      cases hstep
      exact hclock _ s2 (hP.exec i h1 hexec)
    | fault r => exact nomatch r
    | refused r => rw [hexec] at hstep; cases hstep

/-! ## The tile cache -/

/-- Whether the cache is the decoding rests on Video Memory and the cache alone. -/
theorem tilesMatch_congr {s t : State} (hvram : t.vram = s.vram) (htiles : t.tiles = s.tiles) (h : TilesMatch s) :
    TilesMatch t := by
  unfold TilesMatch
  rw [hvram, htiles]
  exact h

/-- Of the operations of a handler only a byte write reaches Video Memory or the cache. -/
theorem stable_tilesMatch : Stable TilesMatch where
  reg8 _ _ _ := tilesMatch_congr (by simp) (by simp)
  pair _ _ _ := tilesMatch_congr (by simp) (by simp)
  pc _ _ := tilesMatch_congr rfl rfl
  sp _ _ := tilesMatch_congr rfl rfl
  flags _ _ _ _ _ := tilesMatch_congr rfl rfl
  read s a := tilesMatch_congr (afterRead_vram s a) (afterRead_tiles s a)
  write _ a v := memWrite_tilesMatch a v

theorem ppuStep_tilesMatch {s : State} (p : Params) (n : Int) : TilesMatch s → TilesMatch (ppuStep p n s) :=
  tilesMatch_congr (ppuStep_vram s p n) (ppuStep_tiles s p n)

theorem stepWith_tilesMatch (p : Params) (s t : State) : TilesMatch s → stepWith p s = .next t → TilesMatch t :=
  stable_tilesMatch.stepWith (fun _ _ _ => tilesMatch_congr rfl rfl)
    (fun cost s => tilesMatch_congr (afterHandler_vram s p cost) (afterHandler_tiles s p cost)) s t

/-- Settles O6: a byte write keeps the cache the decoding, and nothing else a transaction does reaches Video Memory or
the cache but a reset, which empties both. -/
theorem tileCacheInvariant : Obligations.TileCacheInvariant := by
  unfold Obligations.TileCacheInvariant
  refine ⟨(hostReset_invariant State.reset).tiles, fun s => (hostReset_invariant s).tiles,
    fun s a v => memWrite_tilesMatch a v, fun i s t h he => stable_tilesMatch.exec i h he, stepWith_tilesMatch,
    fun p n s => ppuStep_tilesMatch p n, fun p s t h ⟨limit, hrun⟩ => runTo_keeps (stepWith_tilesMatch p) h hrun,
    fun s boot cart => tilesMatch_congr rfl rfl, fun which s other => ?_⟩
  cases which <;> exact tilesMatch_congr rfl rfl

end Sys2Proof.Machine
end

section
/-! The memory map of the MMU: its byte read and its byte write line by line, and the echo (20_memory.md R91, R99, R100,
R102). -/

namespace Sys2Proof.Machine

/-! ## The read -/

/-- Settles O49: the branches of `route` are the lines of R100. -/
theorem readMap : Obligations.ReadMap := by
  unfold Obligations.ReadMap
  intro s a
  constructor
  · simp only [memRead, peek, route, Bool.and_eq_true, decide_eq_true_eq]
    split_ifs <;> rfl
  · simp only [memRead, afterRead, Bool.and_eq_true, beq_iff_eq]
    split <;> rfl

/-! ## The write -/

/-- The addresses whose write is ignored: ROM and the stubs (R90, R94). -/
theorem memWrite_of_rom_or_stub {s : State} {a : Word} {v : Byte}
    (h : a.toNat < 0x8000 ∨ (0xA000 ≤ a.toNat ∧ a.toNat < 0xC000) ∨ (0xFE00 ≤ a.toNat ∧ a.toNat < 0xFF40) ∨
      (0xFF4C ≤ a.toNat ∧ a.toNat < 0xFF80) ∨ a.toNat = 0xFFFF) : memWrite s a v = s := by
  apply memWrite_ignored
  · simp only [isRam, Bool.or_eq_false_iff, decide_eq_false_iff_not]
    omega
  · simp only [isPpuReg, decide_eq_false_iff_not]
    omega

theorem route_eq_videoMemory {booting : Bool} {a : Word} (hlo : 0x8000 ≤ a.toNat) (hhi : a.toNat < 0xA000) :
    route booting a = .videoMemory := by
  simp only [route, if_neg (Nat.not_lt.2 hlo), if_pos hhi]

theorem route_eq_workRam {booting : Bool} {a : Word} (hlo : 0xC000 ≤ a.toNat) (hhi : a.toNat < 0xFE00) :
    route booting a = .workRam := by
  have hrom : ¬a.toNat < 0x8000 := by omega
  have hvideo : ¬a.toNat < 0xA000 := by omega
  simp only [route, if_neg hrom, if_neg hvideo, if_neg (Nat.not_lt.2 hlo), if_pos hhi]

theorem route_eq_zeroPage {booting : Bool} {a : Word} (hlo : 0xFF80 ≤ a.toNat) (hhi : a.toNat ≤ 0xFFFE) :
    route booting a = .zeroPage := by
  rcases route_cases booting a with h | h | h | h | h | h | h | ⟨-, -, hr⟩ | h
  case inr.inr.inr.inr.inr.inr.inr.inl => exact hr
  all_goals omega

theorem memWrite_videoMemory {s : State} {a : Word} {v : Byte} (hlo : 0x8000 ≤ a.toNat) (hhi : a.toNat < 0xA000) :
    memWrite s a v = videoWrite s a.toNat v := by
  simp only [memWrite, route_eq_videoMemory hlo hhi]

theorem memWrite_workRam {s : State} {a : Word} {v : Byte} (hlo : 0xC000 ≤ a.toNat) (hhi : a.toNat < 0xFE00) :
    memWrite s a v = { s with wram := Cells.set unlistedByte s.wram (a.toNat &&& 0x1FFF) v } := by
  simp only [memWrite, route_eq_workRam hlo hhi]
  rfl

theorem memWrite_zeroPage {s : State} {a : Word} {v : Byte} (hlo : 0xFF80 ≤ a.toNat) (hhi : a.toNat ≤ 0xFFFE) :
    memWrite s a v = { s with zram := Cells.set unlistedByte s.zram (a.toNat &&& 0x7F) v } := by
  simp only [memWrite, route_eq_zeroPage hlo hhi]
  rfl

/-- A Video Memory write masks its address itself (R97). -/
theorem videoWrite_mask (s : State) (addr : Nat) (v : Byte) : videoWrite s (addr &&& 0x1FFF) v = videoWrite s addr v := by
  have hmask : videoRegion.index (addr &&& 0x1FFF) = videoRegion.index addr := by
    simp only [RegionShape.index, videoRegion, Nat.and_assoc, Nat.and_self]
  simp only [videoWrite, hmask]

/-- Settles O50: one lemma for the targets that ignore a write, one for each target that takes it. -/
theorem writeMap : Obligations.WriteMap := by
  unfold Obligations.WriteMap
  refine fun s a v => ⟨fun h => memWrite_of_rom_or_stub (by omega), fun hlo hhi => ?video,
    fun _ _ => memWrite_of_rom_or_stub (by omega), fun hlo hhi => ?work, fun _ _ => memWrite_of_rom_or_stub (by omega),
    fun hlo hhi => ?ppu, fun _ _ => memWrite_of_rom_or_stub (by omega), fun hlo hhi => ?zero,
    fun h => memWrite_of_rom_or_stub (by simp [h])⟩
  case video => rw [memWrite_videoMemory hlo hhi, videoWrite_mask]
  case work =>
    rw [memWrite_workRam hlo hhi]
    exact ⟨rfl, fun k => Cells.get_set _ _ _ _ _⟩
  case ppu => exact memWrite_of_isPpuReg s v (decide_eq_true ⟨hlo, hhi⟩)
  case zero =>
    rw [memWrite_zeroPage hlo hhi]
    exact ⟨rfl, fun k => Cells.get_set _ _ _ _ _⟩

/-! ## Two addresses of one byte -/

/-- Addresses that name one byte read alike. -/
theorem peek_eq_of_cellOf_eq {s : State} {x y : Word} (h : cellOf s.bootFlag x = cellOf s.bootFlag y) :
    peek s x = peek s y := by
  obtain ⟨hroute, hindex⟩ := Prod.mk.inj h
  rw [hroute] at hindex
  unfold peek
  rw [hroute]
  cases hr : route s.bootFlag y <;> rw [hr] at hindex <;> simp only [targetIndex] at hindex
  all_goals simp only [RegionShape.readByte, hindex]

/-- A write through either of two addresses that name one byte is the same write. -/
theorem memWrite_eq_of_cellOf_eq {s : State} {x y : Word} (v : Byte)
    (h : cellOf s.bootFlag x = cellOf s.bootFlag y) : memWrite s x v = memWrite s y v := by
  obtain ⟨hroute, hindex⟩ := Prod.mk.inj h
  rw [hroute] at hindex
  unfold memWrite
  rw [hroute]
  cases hr : route s.bootFlag y <;> rw [hr] at hindex <;> simp only [targetIndex] at hindex
  all_goals simp only [videoWrite, RegionShape.writeByte, hindex]

/-- An echo address and the address 0x2000 below it name one byte of working RAM (R99). -/
theorem cellOf_echo {booting : Bool} {a : Word} (hlo : 0xE000 ≤ a.toNat) (hhi : a.toNat < 0xFE00) :
    cellOf booting a = cellOf booting (a - 0x2000#16) := by
  have hbelow : (a - 0x2000#16).toNat = a.toNat - 0x2000 := by bv_omega
  have hmod : a.toNat % 8192 = (a.toNat - 0x2000) % 8192 := by omega
  simp only [cellOf, route_eq_workRam (a := a) (by omega) hhi,
    route_eq_workRam (a := a - 0x2000#16) (by omega) (by omega), targetIndex, workRegion_index, hbelow, hmod]

/-- Settles O51: both addresses name one byte, and the byte is RAM. -/
theorem echoRam : Obligations.EchoRam := by
  unfold Obligations.EchoRam
  intro s a v hlo hhi
  have hcell := cellOf_echo (booting := s.bootFlag) hlo hhi
  have hram : isRam a = true := (isRam_iff s.bootFlag a).2 (.inr (.inl (route_eq_workRam (by omega) hhi)))
  exact ⟨peek_eq_of_cellOf_eq hcell, memWrite_eq_of_cellOf_eq v hcell, peek_memWrite_same s a _ v hram hcell.symm⟩

end Sys2Proof.Machine
end

section
/-! Word reads and writes of the MMU and of a Memory Region (20_memory.md R83, R101, R110). -/

namespace Sys2Proof.Machine

/-! ## The two bytes of a word -/

/-- An address and the next one, the address wrapping, never name one byte. -/
theorem cellOf_succ_ne (booting : Bool) (a : Word) : cellOf booting (a + 1#16) ≠ cellOf booting a := by
  intro h
  obtain ⟨hroute, hindex⟩ := Prod.mk.inj h
  rw [hroute] at hindex
  have hsucc : (a + 1#16).toNat = (a.toNat + 1) % 65536 := by simp
  cases hr : route booting a <;> rw [hr] at hindex <;>
    simp only [targetIndex, bootRegion_index, cartRegion_index, videoRegion_index, workRegion_index,
      zeroPageRegion_index] at hindex
  all_goals omega

theorem wordOf_eq_append (hi lo : Byte) : wordOf hi lo = hi ++ lo := by
  rw [BitVec.append_def, BitVec.shiftLeftZeroExtend_eq, BitVec.setWidth'_eq]
  rfl

/-! ## The word write -/

/-- A word write is two byte writes to different bytes, neither of which moves the map. -/
theorem memWrite16_storesOneWord (s : State) (a w : Word) : StoresOneWord a w s (memWrite16 s a w) := by
  have hne := cellOf_succ_ne s.bootFlag a
  have hlow (x : Word) (h : cellOf s.bootFlag x ≠ cellOf s.bootFlag (a + 1#16)) :
      peek (memWrite16 s a w) x = peek (memWrite s a (loByte w)) x :=
    peek_memWrite_other _ _ _ _ (by rwa [memWrite_bootFlag])
  refine ⟨fun x ha hb => ?_, fun hram x hx => ?_, fun hram x hx => ?_, fun hram hppu => ?_, fun hram hppu => ?_⟩
  · rw [hlow x hb]
    exact peek_memWrite_other s a x _ ha
  · rw [hlow x (hx ▸ hne.symm)]
    exact peek_memWrite_same s a x _ hram hx
  · exact peek_memWrite_same _ _ x _ hram (by rwa [memWrite_bootFlag])
  · rw [hlow a hne.symm, memWrite_ignored s a _ hram hppu]
  · rw [memWrite16, memWrite_ignored _ _ _ hram hppu]
    exact peek_memWrite_other s a _ _ hne

/-- A byte write reaches RAM, the tile cache and the PPU Registers but LY, and nothing else. -/
theorem memWrite_onlyStores (s : State) (a : Word) (v : Byte) : OnlyStores s (memWrite s a v) := by
  refine ⟨?_, memWrite_ly s a v⟩
  rcases memWrite_cases s a v with ⟨-, hw⟩ | ⟨-, hw⟩ | ⟨-, hw⟩ | ⟨-, hw⟩ | ⟨-, hw⟩ <;> rw [hw]
  rfl

theorem OnlyStores.trans {s t u : State} (hst : OnlyStores s t) (htu : OnlyStores t u) : OnlyStores s u := by
  obtain ⟨ht, hly⟩ := hst
  obtain ⟨hu, hly'⟩ := htu
  refine ⟨?_, hly'.trans hly⟩
  rw [hu, ht]

theorem memWrite16_onlyStores (s : State) (a w : Word) : OnlyStores s (memWrite16 s a w) :=
  (memWrite_onlyStores s a _).trans (memWrite_onlyStores _ _ _)

/-! ## The word read -/

theorem memRead16_fst (s : State) (a : Word) :
    (memRead16 s a).1 = peek (afterRead s a) (a + 1#16) ++ peek s a := wordOf_eq_append _ _

theorem memRead16_snd (s : State) (a : Word) :
    (memRead16 s a).2 = { s with bootFlag := s.bootFlag && !(a == 0x0100#16 || a + 1#16 == 0x0100#16) } := by
  simp only [memRead16, memRead_snd, Bool.not_or, Bool.and_assoc]

/-- A change of the boot flag alone shows in no byte at or above 0x0100. -/
theorem peek_bootFlag (s : State) (x : Word) (b : Bool) (h : b = s.bootFlag ∨ 0x0100 ≤ x.toNat) :
    peek { s with bootFlag := b } x = peek s x := by
  refine peek_congr _ _ _ ?_ rfl rfl rfl rfl rfl rfl
  rcases h with rfl | h
  · rfl
  · exact route_of_ge _ _ _ h

theorem memRead16_afterTwoReads (s : State) (a : Word) : AfterTwoReads a (a + 1#16) s (memRead16 s a).2 := by
  rw [memRead16_snd]
  exact ⟨rfl, fun x hx => peek_bootFlag s x _ hx, rfl⟩

theorem ge_of_isRam {a : Word} (h : isRam a = true) : 0x8000 ≤ a.toNat := by
  simp only [isRam, Bool.or_eq_true, decide_eq_true_eq] at h
  omega

/-- Where both bytes are RAM, a written word is read back. -/
theorem memRead16_memWrite16 {s : State} {a : Word} (w : Word) (hlo : isRam a = true) (hhi : isRam (a + 1#16) = true) :
    (memRead16 (memWrite16 s a w) a).1 = w := by
  obtain ⟨-, hlow, hhigh, -⟩ := memWrite16_storesOneWord s a w
  have hflag : peek (afterRead (memWrite16 s a w) a) (a + 1#16) = peek (memWrite16 s a w) (a + 1#16) := by
    have hge := ge_of_isRam hhi
    rw [show afterRead _ a = _ from memRead_snd _ a]
    exact peek_bootFlag _ _ _ (.inr (by omega))
  rw [memRead16_fst, hflag, hlow hlo a rfl, hhigh hhi _ rfl, ← wordOf_eq_append, wordOf_hiByte_loByte]

/-! ## A Region's word operations -/

/-- In Video Memory the index after the last wraps to the first, so the two bytes of a word are always different. -/
theorem videoRegion_readWord_writeWord (m : Memory) (k : Nat) (w : Word) :
    videoRegion.readWord (videoRegion.writeWord m k w) k = w := by
  have hne : k % 8192 ≠ (k + 1) % 8192 := by omega
  simp only [RegionShape.readWord, RegionShape.writeWord, RegionShape.readByte, RegionShape.writeByte, videoRegion_index,
    Cells.get_set_same, Cells.get_set_other _ _ _ _ _ hne, wordOf_hiByte_loByte]

/-- Settles O52: the two byte accesses of the MMU's word operations, and the Region's. -/
theorem wordAccess : Obligations.WordAccess := by
  unfold Obligations.WordAccess
  exact ⟨fun s a w => ⟨rfl, memWrite16_storesOneWord s a w, memWrite16_onlyStores s a w⟩,
    fun s a => ⟨memRead16_fst s a, memRead16_afterTwoReads s a⟩, fun s a w => memRead16_memWrite16 w,
    videoRegion_readWord_writeWord, fun m => wordOf_eq_append _ _⟩

end Sys2Proof.Machine
end

section
/-! A Video Memory write: the byte stored and the one tile row decoded again (20_memory.md R86). -/

namespace Sys2Proof.Machine

theorem videoWrite_vram_get {s : State} {a : Nat} {v : Byte} (ha : a < 0x2000) (k : Nat) :
    Cells.get unlistedByte (videoWrite s a v).vram k = if k = a then v else Cells.get unlistedByte s.vram k := by
  have hmod : a % 8192 = a := Nat.mod_eq_of_lt ha
  simp only [videoWrite, RegionShape.writeByte, videoRegion_index, hmod]
  exact Cells.get_set _ _ _ _ _

theorem toNat_ofBool_bitSet (v : Byte) (k : Nat) : (BitVec.ofBool (bitSet v k)).toNat = (v.toNat >>> k) &&& 1 := by
  rw [bitSet_eq_getLsbD, BitVec.toNat_ofBool, BitVec.getLsbD, Nat.toNat_testBit, Nat.and_one_is_mod,
    Nat.shiftRight_eq_div_pow]

/-- The low bit of a pixel comes from the even byte of its row, the high bit from the odd one (R86). -/
theorem rowPixel_toNat (even odd : Byte) (x : Nat) :
    (rowPixel even odd x).toNat = ((even.toNat >>> (7 - x)) &&& 1) + 2 * ((odd.toNat >>> (7 - x)) &&& 1) := by
  rw [rowPixel, BitVec.toNat_append, toNat_ofBool_bitSet, toNat_ofBool_bitSet, Nat.and_one_is_mod (even.toNat >>> _),
    ← Nat.shiftLeft_add_eq_or_of_lt (by omega), Nat.shiftLeft_eq]
  omega

/-- The tile and the row that hold offset `a` are those whose even byte stands at `a` with bit 0 cleared. -/
theorem tile_row_iff {a t y : Nat} (ha : a < 0x2000) (hy : y < 8) :
    (t = (a &&& 0x1FFE) >>> 4 ∧ y = ((a &&& 0x1FFE) >>> 1) &&& 7) ↔ 16 * t + 2 * y = a &&& 0x1FFE := by
  have hseven (n : Nat) : n &&& 7 = n % 8 := Nat.and_two_pow_sub_one_eq_mod n 3
  rw [hseven, and_0x1FFE a ha, Nat.shiftRight_eq_div_pow, Nat.shiftRight_eq_div_pow]
  omega

/-- Settles O53: the store takes the byte, and of the tile rows only the written one is decoded again. -/
theorem videoWriteDecodesOneRow : Obligations.VideoWriteDecodesOneRow := by
  unfold Obligations.VideoWriteDecodesOneRow
  refine fun s a v ha => ⟨rfl, videoWrite_vram_get ha, fun t y x _ hy hx => ?_⟩
  have heven : a % 8192 / 2 * 2 = a &&& 0x1FFE := by rw [Nat.mod_eq_of_lt ha, and_0x1FFE a ha]
  simp only [tilePixel_videoWrite s a v t y x hx, heven, tile_row_iff ha hy]
  split
  · next hrow => rw [hrow, rowPixel_toNat]
  · rfl

end Sys2Proof.Machine
end

section
/-! The images, the ROM regions and the boot flag (20_memory.md R81, R89, R93 to R96; 70_reset_and_hazards.md R375, R376). -/

namespace Sys2Proof.Machine

/-! ## Reset -/

/-- Below 0x8000 a read is answered by the boot ROM under the boot flag, else by the cartridge ROM. -/
theorem peek_rom (s : State) {x : Word} (hx : x.toNat < 0x8000) :
    peek s x =
      if s.bootFlag = true ∧ x.toNat < 0x100 then Cells.get unlistedByte s.bootRom x.toNat
      else Cells.get unlistedByte s.cartRom x.toNat := by
  have hmap := (readMap s x).1
  rw [if_pos hx] at hmap
  refine hmap.trans (ite_congr rfl (fun hboot => ?_) fun _ => ?_)
  · exact congrArg _ ((bootRegion_index _).trans (Nat.mod_eq_of_lt hboot.2))
  · exact congrArg _ ((cartRegion_index _).trans (Nat.mod_eq_of_lt hx))

/-- Past the ROM regions every byte reads 0x00 after a reset. -/
theorem peek_hostReset_of_ge (s : State) {x : Word} (hx : 0x8000 ≤ x.toNat) : peek (hostReset s) x = 0x00#8 := by
  have hmap := (readMap (hostReset s) x).1
  have hppu : ppuRegRead (hostReset s).ppu x.toNat = 0x00#8 := ppuRegRead_reset x.toNat
  rw [← memRead_fst, hmap, if_neg (Nat.not_lt.2 hx), hppu]
  split_ifs <;> rfl

/-- Settles O2: the reset restores the two ROM regions from the images, read at the address itself. -/
theorem resetLoadsImages : Obligations.ResetLoadsImages := by
  unfold Obligations.ResetLoadsImages
  refine fun s boot cart => ⟨fun x => rfl, fun x => ?_, fun x hx => ?_⟩
  · by_cases hrom : x.toNat < 0x8000
    · rw [peek_rom _ hrom]
      simp only [hrom, if_true]
      refine ite_congr (by simp [hostReset, State.reset]) (fun hboot => ?_) fun _ => ?_
      · exact restore_get bootRegion boot x.toNat hboot
      · exact restore_get cartRegion cart x.toNat hrom
    · have hboot : ¬x.toNat < 0x100 := by omega
      rw [if_neg hboot, if_neg hrom, peek_hostReset_of_ge _ (by omega)]
  · rw [peek_rom _ hx]
    exact restore_get cartRegion cart x.toNat hx

/-! ## Steps -/

/-- The ROM regions and the images of `t` are those of `s`, and the boot flag is not set in `t` if it is clear in `s`. -/
def RomKept (s t : State) : Prop :=
  t.bootRom = s.bootRom ∧ t.cartRom = s.cartRom ∧ t.bootImage = s.bootImage ∧ t.cartImage = s.cartImage ∧
    (s.bootFlag = false → t.bootFlag = false)

theorem romKept_congr {s t u : State} (hboot : u.bootRom = t.bootRom) (hcart : u.cartRom = t.cartRom)
    (hbootImage : u.bootImage = t.bootImage) (hcartImage : u.cartImage = t.cartImage)
    (hflag : u.bootFlag = t.bootFlag) (h : RomKept s t) : RomKept s u := by
  unfold RomKept
  rw [hboot, hcart, hbootImage, hcartImage, hflag]
  exact h

/-- Of the operations of a handler only a read moves the boot flag, and it only clears it (R93). -/
theorem stable_romKept (s : State) : Stable (RomKept s) where
  reg8 _ _ _ := romKept_congr (by simp) (by simp) (by simp) (by simp) (by simp)
  pair _ _ _ := romKept_congr (by simp) (by simp) (by simp) (by simp) (by simp)
  pc _ _ := romKept_congr rfl rfl rfl rfl rfl
  sp _ _ := romKept_congr rfl rfl rfl rfl rfl
  flags _ _ _ _ _ := romKept_congr rfl rfl rfl rfl rfl
  read t a h := by
    obtain ⟨hboot, hcart, hbootImage, hcartImage, hflag⟩ := h
    rw [memRead_snd]
    exact ⟨hboot, hcart, hbootImage, hcartImage, fun hs => by simp [hflag hs]⟩
  write _ _ _ := romKept_congr (by simp) (by simp) (by simp) (by simp) (by simp)

theorem stepWith_romKept (p : Params) (s t : State) (hstep : stepWith p s = .next t) : RomKept s t :=
  (stable_romKept s).stepWith (fun _ _ _ => romKept_congr rfl rfl rfl rfl rfl)
    (fun _ _ => romKept_congr (by simp) (by simp) (by simp) (by simp) (by simp))
    s t ⟨rfl, rfl, rfl, rfl, id⟩ hstep

/-- Settles O7: a step is made of operations that keep ROM and set no boot flag. -/
theorem romAndBootFlag : Obligations.RomAndBootFlag := by
  unfold Obligations.RomAndBootFlag
  exact ⟨stepWith_romKept, fun s a v ha => memWrite_of_rom_or_stub (.inl ha)⟩

end Sys2Proof.Machine
end

section
/-! Encoding and decoding are inverse to each other; which bytes have no handler (30_encoding.md R140 to R149, R169). -/

namespace Sys2Proof

open Laws.OpcodeRow (Statement build operandBytes of_op of_d8 of_d16)
open Machine (undefinedPrimary undefinedExtended lengthByFirstByte)

/-! ## Every instruction has a row -/

/-- The table's row for an instruction's opcode builds it back, by its form: two operand bytes, one or none. -/
theorem opcodeRow_builds (i : Instr) : Statement i := by
  cases i
  case ldBcImm nn | ldDeImm nn | ldHlImm nn | ldSpImm nn | call nn | ldAtImmA nn | ldAAtImm nn =>
    exact of_d16 _ nn rfl rfl
  case ldBImm n | ldCImm n | ldDImm n | ldEImm n | ldHImm n | ldLImm n | ldAtHlImm n | ldAImm n | addImm n | subImm n
      | cpImm n | jr n | jrNz n | jrZ n | ldhAtImmA n | ldhAAtImm n =>
    exact of_d8 _ n rfl rfl
  all_goals exact of_op _ rfl rfl

/-- A form that builds an instruction from its operand bytes takes exactly those bytes. -/
theorem take_append_of_build {form : Form} {operands : List Byte} {i : Instr} (h : build form operands = some i)
    (rest : List Byte) : form.take (operands ++ rest) = .ok (i, rest) := by
  unfold build at h
  split at h <;> cases h <;> rfl

/-- A form that builds an instruction is encoded as its opcode bytes and the bytes it builds the instruction from. -/
theorem encode_of_build {form : Form} {opcode operands : List Byte} {i : Instr} (hform : form.EncodedAs opcode)
    (h : build form operands = some i) : encode i = opcode ++ operands := by
  unfold build at h
  split at h <;> cases h
  · exact hform.trans (List.append_nil _).symm
  · exact hform _
  · simpa using hform (wordOf _ _)

theorem encode_eq_opcodeBytes_append (i : Instr) :
    encode i = opcodeBytes i.opcode.1 i.opcode.2 ++ operandBytes i := by
  obtain ⟨form, hlookup, hbuild⟩ := opcodeRow_builds i
  exact encode_of_build (encodedAs_of_lookupIn (impl := implAll) hlookup) hbuild

/-! ## Decoding by the opcode bytes -/

theorem lookup_primary_escapeByte : lookup .primary escapeByte = none := rfl

/-- The opcode bytes of a space select the decoding of that space, the escape byte being no opcode (R148, R161). -/
theorem decode_opcodeBytes_append {sp : Space} {op : Byte} (hop : sp = .primary → op ≠ escapeByte) (impl : ImplSet)
    (bs : List Byte) : decode impl (opcodeBytes sp op ++ bs) = decodeOpcode impl sp op bs := by
  cases sp with
  | primary => exact if_neg (hop rfl)
  | extended => rfl

theorem decode_of_lookup_none {sp : Space} {op : Byte} (hop : sp = .primary → op ≠ escapeByte)
    (h : lookup sp op = none) (impl : ImplSet) (bs : List Byte) :
    decode impl (opcodeBytes sp op ++ bs) = .error (.undefinedOpcode sp op) := by
  rw [decode_opcodeBytes_append hop]
  simp [decodeOpcode, lookupIn, h]

/-- The bytes of an instruction decode to it and leave what follows if its opcode is implemented, and are an undefined
opcode if not (R13, R140, R161). -/
theorem decode_encode_append (impl : ImplSet) (i : Instr) (rest : List Byte) :
    decode impl (encode i ++ rest) =
      if i.wellFormed impl then .ok (i, rest) else .error (.undefinedOpcode i.opcode.1 i.opcode.2) := by
  obtain ⟨form, hlookup, hbuild⟩ := opcodeRow_builds i
  have hop : i.opcode.1 = .primary → i.opcode.2 ≠ escapeByte := by
    intro hsp hesc
    rw [hsp, hesc, lookup_primary_escapeByte] at hlookup
    cases hlookup
  rw [encode_eq_opcodeBytes_append, List.append_assoc, decode_opcodeBytes_append hop, decodeOpcode, lookupIn, hlookup,
    Instr.wellFormed]
  cases impl i.opcode.1 i.opcode.2 with
  | true => exact take_append_of_build hbuild rest
  | false => rfl

/-- Settles O8: the opcode's row takes the operand bytes that the encoder wrote. -/
theorem decodeEncode : Obligations.DecodeEncode := by
  unfold Obligations.DecodeEncode
  intro impl i rest hwf
  rw [decode_encode_append, if_pos hwf]

/-- Settles O9: the bytes are the encoding, which decodes only if the instruction is well-formed. -/
theorem encodeDecode : Obligations.EncodeDecode := by
  unfold Obligations.EncodeDecode
  intro impl bs i rest h
  have hbs := encode_append_of_decode h
  refine ⟨hbs.symm, ?_⟩
  rw [← hbs, decode_encode_append] at h
  split at h
  · assumption
  · cases h

/-! ## The bytes without handler and the lengths -/

/-- The opcodes a space has a row for, as numbers, which are quicker to compare than bytes. -/
def opcodes (sp : Space) : List Nat := (opcodeTable sp).map fun row => row.1.toNat

theorem lookup_eq_none_iff (sp : Space) (op : Byte) : lookup sp op = none ↔ op.toNat ∉ opcodes sp := by
  simp [lookup, opcodes, ← BitVec.toNat_inj]

theorem toNat_notMem_opcodes_primary_iff : ∀ op : Byte,
    op.toNat ∉ opcodes .primary ↔ op.toNat ∈ (escapeByte :: undefinedPrimary).map BitVec.toNat := by decide

theorem toNat_notMem_opcodes_extended_iff : ∀ op : Byte,
    op.toNat ∉ opcodes .extended ↔ op.toNat ∈ undefinedExtended.map BitVec.toNat := by decide

theorem lookup_primary_eq_none_iff (op : Byte) :
    lookup .primary op = none ↔ op = escapeByte ∨ op ∈ undefinedPrimary := by
  rw [lookup_eq_none_iff, toNat_notMem_opcodes_primary_iff, List.mem_map_of_injective BitVec.toNat_injective,
    List.mem_cons]

theorem lookup_extended_eq_none_iff (op : Byte) : lookup .extended op = none ↔ op ∈ undefinedExtended := by
  rw [lookup_eq_none_iff, toNat_notMem_opcodes_extended_iff, List.mem_map_of_injective BitVec.toNat_injective]

theorem escapeByte_notMem_undefinedPrimary : escapeByte ∉ undefinedPrimary := by decide

theorem length_eq_lengthByFirstByte (i : Instr) : i.length = lengthByFirstByte ((encode i).headD 0x00#8) := by
  cases i <;> rfl

/-- Settles O10: the listed bytes are those the tables have no row for, and the decoder refuses such a byte. -/
theorem opcodeMap : Obligations.OpcodeMap := by
  unfold Obligations.OpcodeMap
  refine ⟨rfl, rfl, lookup_primary_eq_none_iff, lookup_extended_eq_none_iff, fun impl op bs hmem => ?_,
    fun impl op bs hmem => ?_, length_eq_lengthByFirstByte⟩
  · have hop : op ≠ escapeByte := ne_of_mem_of_not_mem hmem escapeByte_notMem_undefinedPrimary
    exact decode_of_lookup_none (sp := .primary) (fun _ => hop) ((lookup_primary_eq_none_iff op).2 (.inr hmem)) impl bs
  · exact decode_of_lookup_none (sp := .extended) nofun ((lookup_extended_eq_none_iff op).2 hmem) impl bs

/-- Settles O11: the decoder, run on each of the words. -/
theorem specWordsDecode : Obligations.SpecWordsDecode := by
  unfold Obligations.SpecWordsDecode
  exact ⟨rfl, rfl, rfl, rfl, rfl, rfl, rfl, rfl, rfl, rfl, rfl, rfl, rfl, rfl, rfl⟩

end Sys2Proof
end

section
/-! Every instruction and every step answers a next state, and a stopped CPU stays as it is (40_execution.md R166, R168;
60_exceptions.md R304). -/

namespace Sys2Proof.Machine

theorem exec_completes (i : Instr) (s : State) : ∃ t : State, exec i s = .next t := by
  cases i <;> exact ⟨_, rfl⟩

theorem stepWith_completes (p : Params) (s : State) : ∃ t : State, stepWith p s = .next t := by
  rcases stepWith_cases p s with ⟨-, hs⟩ | ⟨-, sp, op, s1, -, hs⟩ | ⟨-, i, s1, -, hs⟩
  · exact ⟨_, hs⟩
  · exact ⟨_, hs⟩
  · obtain ⟨s2, hexec⟩ := exec_completes i s1
    rw [hexec] at hs
    exact ⟨_, hs⟩

/-- Settles O15: the handlers case by case, and from them the step. -/
theorem everyInstructionCompletes : Obligations.EveryInstructionCompletes := by
  unfold Obligations.EveryInstructionCompletes
  exact ⟨exec_completes, stepWith_completes⟩

/-- Settles O14: the stop flag is the first thing a step looks at. -/
theorem stoppedStep : Obligations.StoppedStep := by
  unfold Obligations.StoppedStep
  intro p s hs
  rcases stepWith_cases p s with ⟨-, h⟩ | ⟨hrun, -⟩ | ⟨hrun, -⟩
  · exact h
  all_goals rw [hs] at hrun; cases hrun

end Sys2Proof.Machine
end

section
/-! What a handler works on: the registers and the MMU's memories, and nothing else (40_execution.md R174). -/

namespace Sys2Proof.Machine

/-! ## What a handler does not write -/

/-- The parts of the state outside a handler's context are in `t` those of `s`. -/
def ContextKept (s t : State) : Prop :=
  t.cpuClock = s.cpuClock ∧ t.ppuClock = s.ppuClock ∧ t.mode = s.mode ∧ t.pixels = s.pixels ∧ t.frames = s.frames ∧
    t.ppu.ly = s.ppu.ly ∧ t.stopped = s.stopped ∧ t.error = s.error ∧ t.bootRom = s.bootRom ∧
    t.cartRom = s.cartRom ∧ t.bootImage = s.bootImage ∧ t.cartImage = s.cartImage

/-- The registers, the boot flag, the RAM, the tile cache and the PPU Registers but LY are inside the context. -/
theorem contextKept_of_frame {s t u : State} (h : ContextKept s t) (hly : u.ppu.ly = t.ppu.ly)
    (hu : u = { t with
      a := u.a, b := u.b, c := u.c, d := u.d, e := u.e, h := u.h, l := u.l, f := u.f, pc := u.pc, sp := u.sp
      bootFlag := u.bootFlag, vram := u.vram, tiles := u.tiles, wram := u.wram, zram := u.zram, ppu := u.ppu }) :
    ContextKept s u := by
  rw [hu]
  obtain ⟨hcpu, hppu, hmode, hpixels, hframes, hold, hrest⟩ := h
  exact ⟨hcpu, hppu, hmode, hpixels, hframes, hly.trans hold, hrest⟩

theorem memWrite_contextKept {s t : State} (a : Word) (v : Byte) (h : ContextKept s t) :
    ContextKept s (memWrite t a v) := by
  obtain ⟨hstores, hly⟩ := memWrite_onlyStores t a v
  refine contextKept_of_frame h hly ?_
  rw [hstores]

theorem stable_contextKept (s : State) : Stable (ContextKept s) where
  reg8 _ r _ h := contextKept_of_frame h (by simp) (by cases r <;> rfl)
  pair _ q _ h := contextKept_of_frame h (by simp) (by cases q <;> rfl)
  pc _ _ h := contextKept_of_frame h rfl rfl
  sp _ _ h := contextKept_of_frame h rfl rfl
  flags _ _ _ _ _ h := contextKept_of_frame h rfl rfl
  read t a h := memRead_snd t a ▸ contextKept_of_frame h rfl rfl
  write _ a v := memWrite_contextKept a v

theorem contextKept_refl (s : State) : ContextKept s s := ⟨rfl, rfl, rfl, rfl, rfl, rfl, rfl, rfl, rfl, rfl, rfl, rfl⟩

theorem exec_contextKept {i : Instr} {s t : State} (h : exec i s = .next t) : ContextKept s t :=
  (stable_contextKept s).exec i (contextKept_refl s) h

/-! ## What a handler does not read -/

/-- `s` with everything that a handler does not read taken from `u`. -/
def withHidden (u s : State) : State :=
  { s with
    cpuClock := u.cpuClock, ppuClock := u.ppuClock, mode := u.mode, pixels := u.pixels, frames := u.frames
    stopped := u.stopped, error := u.error, bootImage := u.bootImage, cartImage := u.cartImage, tiles := u.tiles }

/-- What a handler can see of a state: everything else is at its reset value. -/
def handlerView (s : State) : State := withHidden .reset s

/-- A handler cannot tell the two states apart. -/
def SameView (s t : State) : Prop := handlerView s = handlerView t

theorem SameView.map {α : Type} {s t : State} (h : SameView s t) (f : State → α) :
    f (handlerView s) = f (handlerView t) := congrArg f h

theorem sameView_handlerView (s : State) : SameView (handlerView s) s := rfl

/-- Of the hidden parts a byte write reaches the tile cache alone, and what it stores elsewhere does not rest on it. -/
theorem sameView_memWrite_handlerView (s : State) (a : Word) (v : Byte) :
    SameView (memWrite (handlerView s) a v) (memWrite s a v) := by
  have hroute : route (handlerView s).bootFlag a = route s.bootFlag a := rfl
  unfold SameView memWrite
  rw [hroute]
  cases route s.bootFlag a <;> rfl

section
variable {s t : State} (h : SameView s t)
include h

theorem memWrite_sameView (a : Word) (v : Byte) : SameView (memWrite s a v) (memWrite t a v) := by
  have hs := sameView_memWrite_handlerView s a v
  rw [h] at hs
  exact hs.symm.trans (sameView_memWrite_handlerView t a v)

theorem setPc_sameView (w : Word) : SameView { s with pc := w } { t with pc := w } :=
  h.map fun x => ({ x with pc := w } : State)

theorem setSp_sameView (w : Word) : SameView { s with sp := w } { t with sp := w } :=
  h.map fun x => ({ x with sp := w } : State)

theorem setHl_sameView (w : Word) : SameView (s.setPair .hl w) (t.setPair .hl w) :=
  h.map fun x => x.setPair .hl w

theorem pushByte_sameView (v : Byte) : SameView (pushByte s v) (pushByte t v) := by
  have hsp : s.sp = t.sp := h.map State.sp
  unfold pushByte
  rw [hsp]
  exact memWrite_sameView (setSp_sameView h _) _ _

end

/-! ## What a handler does not read: the operations -/

/-- The view of a result. -/
def resultView : Result → Result
  | .next t => .next (handlerView t)
  | .fault r => .fault r
  | .refused r => .refused r

/-- What a handler can see of the state decides what it can see of the result. -/
def ReadsView (f : State → Result) : Prop := ∀ s, resultView (f (handlerView s)) = resultView (f s)

theorem jumpRelIf_readsView (cond : Bool) (e : Byte) : ReadsView (jumpRelIf cond e) := fun s => by cases cond <;> rfl

theorem storeAAt_readsView (addr : Word) : ReadsView (storeAAt addr) := fun s =>
  congrArg Host.Outcome.next (sameView_memWrite_handlerView s addr s.a)

theorem storeImmAtHl_readsView (n : Byte) : ReadsView (storeImmAtHl n) := fun s =>
  congrArg Host.Outcome.next (sameView_memWrite_handlerView s (s.pair .hl) n)

theorem storeAtHl_readsView (r : Reg8) : ReadsView (storeAtHl r) := fun s => by
  cases r <;> exact congrArg Host.Outcome.next (sameView_memWrite_handlerView s (s.pair .hl) _)

theorem storeAAtHlThenMove_readsView (moved : Word) : ReadsView (storeAAtHlThenMove moved) := fun s =>
  congrArg Host.Outcome.next (setHl_sameView (sameView_memWrite_handlerView s (s.pair .hl) s.a) moved)

theorem callTo_readsView (target : Word) : ReadsView (callTo target) := fun s =>
  congrArg Host.Outcome.next (setPc_sameView (memWrite_sameView
    (sameView_memWrite_handlerView { s with sp := s.sp - 2#16 } _ _) _ _) target)

theorem pushPair_readsView (q : Pair) : ReadsView (pushPair q) := fun s => by
  cases q <;> exact congrArg Host.Outcome.next (pushByte_sameView (pushByte_sameView (sameView_handlerView s) _) _)

/-! The operations that read memory: a read moves the boot flag alone, and by its address. -/

theorem loadAFrom_readsView (addr : Word) : ReadsView (loadAFrom addr) := fun s => by
  simp only [loadAFrom, memRead_eq]; rfl

theorem loadAFromHlThenMove_readsView (moved : Word) : ReadsView (loadAFromHlThenMove moved) := fun s => by
  simp only [loadAFromHlThenMove, readAtHl, memRead_eq]; rfl

theorem loadFromHl_readsView (r : Reg8) : ReadsView (loadFromHl r) := fun s => by
  simp only [loadFromHl, readAtHl, memRead_eq]
  cases r <;> rfl

theorem addAtHl_readsView : ReadsView addAtHl := fun s => by
  simp only [addAtHl, readAtHl, memRead_eq]; rfl

theorem subAtHl_readsView : ReadsView subAtHl := fun s => by
  simp only [subAtHl, readAtHl, memRead_eq]; rfl

theorem compareAtHl_readsView : ReadsView compareAtHl := fun s => by
  simp only [compareAtHl, readAtHl, memRead_eq]; rfl

theorem testBitAtHl_readsView (k : Nat) : ReadsView (testBitAtHl k) := fun s => by
  simp only [testBitAtHl, readAtHl, memRead_eq]; rfl

theorem popPair_readsView (q : Pair) : ReadsView (popPair q) := fun s => by
  simp only [popPair, popByte, memRead_eq]
  cases q <;> rfl

theorem returnToCaller_readsView : ReadsView returnToCaller := fun s => by
  simp only [returnToCaller, memRead16, memRead_eq]; rfl

/-! ## The handlers -/

/-- The handlers that access memory are shared operations; the others compute on the registers alone. -/
theorem exec_readsView (i : Instr) : ReadsView (exec i) := fun s => by
  cases i
  case ldAtHlImm n => exact storeImmAtHl_readsView n s
  case ldAtBcA | ldAtDeA | ldhAtImmA | ldAtCA | ldAtImmA => exact storeAAt_readsView _ s
  case ldAAtBc | ldAAtDe | ldhAAtImm | ldAAtC | ldAAtImm => exact loadAFrom_readsView _ s
  case ldAtHlIncA | ldAtHlDecA => exact storeAAtHlThenMove_readsView _ s
  case ldAAtHlInc | ldAAtHlDec => exact loadAFromHlThenMove_readsView _ s
  case ldBAtHl | ldCAtHl | ldDAtHl | ldEAtHl | ldHAtHl | ldLAtHl | ldAAtHl => exact loadFromHl_readsView _ s
  case ldAtHlB | ldAtHlC | ldAtHlD | ldAtHlE | ldAtHlH | ldAtHlL | ldAtHlA => exact storeAtHl_readsView _ s
  case addAtHl => exact addAtHl_readsView s
  case subAtHl => exact subAtHl_readsView s
  case cpAtHl => exact compareAtHl_readsView s
  case bit0AtHl | bit1AtHl | bit2AtHl | bit3AtHl | bit4AtHl | bit5AtHl | bit6AtHl | bit7AtHl =>
    exact testBitAtHl_readsView _ s
  case jr | jrNz | jrZ => exact jumpRelIf_readsView _ _ s
  case call | rst38 => exact callTo_readsView _ s
  case ret => exact returnToCaller_readsView s
  case pushBc | pushDe | pushHl => exact pushPair_readsView _ s
  case popBc | popDe | popHl => exact popPair_readsView _ s
  all_goals rfl

/-- From states a handler cannot tell apart it answers states a handler cannot tell apart. -/
theorem exec_sameView {i : Instr} {s s' t t' : State} (h : SameView s s') (ht : exec i s = .next t)
    (ht' : exec i s' = .next t') : SameView t t' := by
  have hview := (exec_readsView i s).symm.trans ((congrArg (resultView ∘ exec i) h).trans (exec_readsView i s'))
  rw [ht, ht'] at hview
  exact Host.Outcome.next.inj hview

/-- A state is decided by what a handler can see of it and by the hidden parts. -/
theorem eq_withHidden_of_sameView {s t : State} (h : SameView s t) : s = withHidden s t :=
  h.map (withHidden s)

/-- The hidden parts stay as they are, but for the tile cache. -/
theorem withHidden_of_contextKept {u s t : State} (h : ContextKept (withHidden u s) t) (x : State) :
    withHidden t x = { withHidden u x with tiles := t.tiles } := by
  obtain ⟨hcpu, hppu, hmode, hpixels, hframes, -, hstopped, herror, -, -, hboot, hcart⟩ := h
  simp only [withHidden, hcpu, hppu, hmode, hpixels, hframes, hstopped, herror, hboot, hcart]

/-- The result under other hidden parts is the same result under those. -/
theorem exec_withHidden {i : Instr} {s t : State} (u : State) (ht : exec i s = .next t) :
    ∃ tiles, exec i (withHidden u s) = .next { withHidden u t with tiles := tiles } := by
  obtain ⟨t', ht'⟩ := exec_completes i (withHidden u s)
  have hview : SameView t' t := exec_sameView (s := withHidden u s) (s' := s) rfl ht' ht
  refine ⟨t'.tiles, ?_⟩
  rw [ht', ← withHidden_of_contextKept (exec_contextKept ht') t, ← eq_withHidden_of_sameView hview]

/-- Settles O16: every operation of a handler keeps what is outside its context, and what a handler can see of the state
decides what it can see of the result. -/
theorem handlerContext : Obligations.HandlerContext := by
  unfold Obligations.HandlerContext
  exact ⟨fun _ _ _ => exec_contextKept, fun _ _ _ u ht => exec_withHidden u ht⟩

end Sys2Proof.Machine
end

section
/-! What the fetches find where the bytes at PC have no handler (30_encoding.md R147; 40_execution.md R162;
60_exceptions.md R300, R301, R306). -/

namespace Sys2Proof

/-! ## The decoder refuses nothing but an undefined opcode -/

theorem Instr.length_le_three (i : Instr) : i.length ≤ 3 := by
  rw [length_eq_lengthByFirstByte]
  unfold Machine.lengthByFirstByte
  split_ifs <;> decide

/-- A form takes its operands where three bytes stand, the opcode's among them: no instruction is longer. -/
theorem take_ok_of_encodedAs {form : Form} {opcode bs : List Byte} (hform : form.EncodedAs opcode)
    (hlen : opcode.length + bs.length = 3) : ∃ i rest, form.take bs = .ok (i, rest) := by
  cases form with
  | op i => exact ⟨i, bs, rfl⟩
  | d8 k =>
    have hle := Instr.length_le_three (k 0x00#8)
    rw [Instr.length, hform, List.length_append, List.length_singleton] at hle
    obtain _ | ⟨n, bs⟩ := bs
    · rw [List.length_nil] at hlen; omega
    · exact ⟨_, _, rfl⟩
  | d16 k =>
    have hle := Instr.length_le_three (k 0x0000#16)
    rw [Instr.length, hform, List.length_append, List.length_cons, List.length_singleton] at hle
    obtain _ | ⟨lo, _ | ⟨hi, bs⟩⟩ := bs
    · rw [List.length_nil] at hlen; omega
    · rw [List.length_singleton] at hlen; omega
    · exact ⟨_, _, rfl⟩

/-- Three bytes, the opcode's among them, hold an instruction unless the opcode has no row. -/
theorem decodeOpcode_cases (impl : ImplSet) (sp : Space) (op : Byte) {bs : List Byte}
    (hlen : (opcodeBytes sp op).length + bs.length = 3) :
    (∃ i rest, decodeOpcode impl sp op bs = .ok (i, rest)) ∨
    (lookupIn impl sp op = none ∧ decodeOpcode impl sp op bs = .error (.undefinedOpcode sp op)) := by
  unfold decodeOpcode
  cases hl : lookupIn impl sp op with
  | none => exact .inr ⟨rfl, rfl⟩
  | some form => exact .inl (take_ok_of_encodedAs (encodedAs_of_lookupIn hl) hlen)

end Sys2Proof

namespace Sys2Proof.Machine

/-! ## The bytes at PC -/

theorem fetch_eq_fetched (s : State) : fetch s = (peek s s.pc, fetched 1 s) := by
  simpa using fetch_fetched (n := 0) s (by decide)

theorem dispatch_of_lookupIn_none {impl : ImplSet} {sp : Space} {op : Byte} (s : State)
    (h : lookupIn impl sp op = none) : dispatch impl sp op s = .undefinedOpcode sp op s := by
  unfold dispatch
  rw [h]

theorem decode_codeBytes (impl : ImplSet) (s : State) :
    decode impl (codeBytes s) =
      if peek s s.pc = escapeByte then decodeOpcode impl .extended (peek s (s.pc + 1#16)) [peek s (s.pc + 2#16)]
      else decodeOpcode impl .primary (peek s s.pc) [peek s (s.pc + 1#16), peek s (s.pc + 2#16)] := rfl

theorem fetchInstr_eq (impl : ImplSet) (s : State) :
    fetchInstr impl s =
      if peek s s.pc = escapeByte then dispatch impl .extended (peek s (s.pc + 1#16)) (fetched 2 s)
      else dispatch impl .primary (peek s s.pc) (fetched 1 s) := by
  have hfetch2 : fetch (fetched 1 s) = (peek s (s.pc + 1#16), fetched 2 s) := fetch_fetched s (by decide)
  simp only [fetchInstr, fetch_eq_fetched s, hfetch2]

/-- What decoding at PC can answer, and what the fetches find where it answers no instruction. -/
theorem decode_codeBytes_cases (impl : ImplSet) (s : State) :
    (∃ i rest, decode impl (codeBytes s) = .ok (i, rest)) ∨
    (decode impl (codeBytes s) = .error (.undefinedOpcode .primary (peek s s.pc)) ∧
      fetchInstr impl s = .undefinedOpcode .primary (peek s s.pc) (fetched 1 s)) ∨
    (peek s s.pc = escapeByte ∧
      decode impl (codeBytes s) = .error (.undefinedOpcode .extended (peek s (s.pc + 1#16))) ∧
      fetchInstr impl s = .undefinedOpcode .extended (peek s (s.pc + 1#16)) (fetched 2 s)) := by
  rw [decode_codeBytes, fetchInstr_eq]
  by_cases hop : peek s s.pc = escapeByte
  · rw [if_pos hop, if_pos hop]
    rcases decodeOpcode_cases impl .extended (peek s (s.pc + 1#16)) (bs := [_]) rfl with hok | ⟨hl, herr⟩
    · exact .inl hok
    · exact .inr (.inr ⟨hop, herr, dispatch_of_lookupIn_none _ hl⟩)
  · rw [if_neg hop, if_neg hop]
    rcases decodeOpcode_cases impl .primary (peek s s.pc) (bs := [_, _]) rfl with hok | ⟨hl, herr⟩
    · exact .inl hok
    · exact .inr (.inl ⟨herr, dispatch_of_lookupIn_none _ hl⟩)

/-! ## The step -/

theorem stepWith_of_undefinedOpcode {p : Params} {s s1 : State} {sp : Space} {op : Byte} (hs : s.stopped = false)
    (hf : fetchInstr p.implSet s = .undefinedOpcode sp op s1) : stepWith p s = .next (raiseDecodeError sp op s1) := by
  obtain ⟨h, -⟩ | ⟨-, _, _, _, h, hstep⟩ | ⟨-, _, _, h, -⟩ := stepWith_cases p s
  · rw [hs] at h; cases h
  · rw [hf] at h; cases h
    exact hstep
  · rw [hf] at h; cases h

/-- Settles O13: what decoding at PC answers is what the fetches find, and the step raises it. -/
theorem decodeErrorEffects : Obligations.DecodeErrorEffects := by
  unfold Obligations.DecodeErrorEffects
  refine ⟨fun p s op hs h => ?primary, fun p s op hs h => ?extended, fun p s h => ?truncated⟩
  all_goals
    rcases decode_codeBytes_cases p.implSet s with ⟨i, rest, hd⟩ | ⟨hd, hf⟩ | ⟨hpc, hd, hf⟩ <;>
      rw [hd] at h <;> cases h
  case primary.inr.inl.refl =>
    exact ⟨rfl, stepWith_of_undefinedOpcode hs hf, rfl, stoppedStep _ _ rfl⟩
  case extended.inr.inr.refl =>
    exact ⟨hpc, rfl, stepWith_of_undefinedOpcode hs hf, rfl, stoppedStep _ _ rfl⟩

end Sys2Proof.Machine
end

section
/-! What moves the CPU Clock (40_execution.md R163, R164; 60_exceptions.md R310 to R313). -/

namespace Sys2Proof.Machine

@[simp] theorem afterHandler_cpuClock (p : Params) (cost : Nat) (s : State) :
    (afterHandler p cost s).cpuClock = ⟨s.cpuClock.base + cost, s.cpuClock.fine + 4 * cost⟩ := by
  simp [afterHandler, tickCpu]

/-- The fetches leave the flags, so they leave the cost. -/
theorem handlerCost_fetched (p : Params) (i : Instr) (n : Nat) (s : State) :
    handlerCost p i (fetched n s) = handlerCost p i s := rfl

/-- What a step that runs the instruction at PC does to the stop flag and the CPU Clock. -/
theorem stepWith_instr {p : Params} {s t : State} {i : Instr} {rest : List Byte} (hs : s.stopped = false)
    (hd : decode p.implSet (codeBytes s) = .ok (i, rest)) (hstep : stepWith p s = .next t) :
    t.stopped = false ∧
    t.cpuClock = ⟨s.cpuClock.base + handlerCost p i s, s.cpuClock.fine + 4 * handlerCost p i s⟩ := by
  rw [stepWith_of_fetchInstr hs (fetchInstr_of_decode hd), handlerCost_fetched] at hstep
  obtain ⟨s2, hexec⟩ := exec_completes i (fetched i.length s)
  rw [hexec] at hstep
  cases hstep
  obtain ⟨hcpu, -, -, -, -, -, hstopped, -⟩ := exec_contextKept hexec
  rw [afterHandler_stopped, afterHandler_cpuClock, hstopped, hcpu]
  exact ⟨hs, rfl⟩

/-- The three kinds of step, told apart by what they do to the stop flag and the Clocks. -/
theorem stepWith_clock_cases {p : Params} {s t : State} (hstep : stepWith p s = .next t) :
    (s.stopped = true ∧ t = s) ∨
    (s.stopped = false ∧ t.stopped = true ∧ t.cpuClock = s.cpuClock ∧ t.ppuClock = s.ppuClock) ∨
    (s.stopped = false ∧ t.stopped = false ∧ ∃ i rest, decode p.implSet (codeBytes s) = .ok (i, rest) ∧
      t.cpuClock.base = s.cpuClock.base + handlerCost p i s) := by
  cases hs : s.stopped
  · refine .inr ?_
    rcases decode_codeBytes_cases p.implSet s with ⟨i, rest, hd⟩ | ⟨-, hf⟩ | ⟨-, -, hf⟩
    · obtain ⟨hrun, hclock⟩ := stepWith_instr hs hd hstep
      exact .inr ⟨rfl, hrun, i, rest, hd, congrArg Clock.base hclock⟩
    all_goals
      rw [stepWith_of_undefinedOpcode hs hf] at hstep
      cases hstep
      exact .inl ⟨rfl, rfl, rfl, rfl⟩
  · rw [stoppedStep p s hs] at hstep
    cases hstep
    exact .inl ⟨rfl, rfl⟩

/-- Settles O17: a step's effect on the Clocks by its three kinds; the costs and the host's transactions are read off
their definitions. -/
theorem cpuClockAdvance : Obligations.CpuClockAdvance := by
  unfold Obligations.CpuClockAdvance
  refine ⟨fun p s t i rest hs hd hstep => ?_, fun p s t hstop hstep => ?_, fun p e s => ⟨rfl, rfl⟩,
    fun s boot cart p n other => ⟨rfl, rfl, ppuStep_cpuClock s p n, rfl, rfl⟩⟩
  · obtain ⟨-, hclock⟩ := stepWith_instr hs hd hstep
    exact ⟨congrArg Clock.base hclock, congrArg Clock.fine hclock⟩
  · rcases stepWith_clock_cases hstep with ⟨-, rfl⟩ | ⟨-, -, hcpu, hppu⟩ | ⟨hs, ht, -⟩
    · exact ⟨rfl, rfl⟩
    · exact ⟨hcpu, hppu⟩
    · rw [hs, ht] at hstop
      simp at hstop

end Sys2Proof.Machine
end

section
/-! RunFrame as a loop of steps: what it answers, its overrun and its end (40_execution.md R170). -/

namespace Sys2Proof.Machine

variable {p : Params} {target : Nat}

theorem frameOver_eq_false_iff (s : State) :
    frameOver target s = false ↔ s.stopped = false ∧ s.cpuClock.base < target := by
  simp [frameOver]

theorem repeatStep_succ {n : Nat} {s u : State} (h : stepWith p s = .next u) :
    repeatStep p (n + 1) s = repeatStep p n u := by
  rw [repeatStep, h]

/-! ## The answer -/

/-- `k` steps lead from `s` to `t`, where the loop is over, and at no state before is it over. -/
def FirstOverAfter (p : Params) (target k : Nat) (s t : State) : Prop :=
  repeatStep p k s = .next t ∧ frameOver target t = true ∧
    ∀ j u, j < k → repeatStep p j s = .next u → frameOver target u = false

theorem firstOverAfter_zero {s t : State} : FirstOverAfter p target 0 s t ↔ t = s ∧ frameOver target s = true := by
  constructor
  · rintro ⟨hrun, hover, -⟩
    cases hrun
    exact ⟨rfl, hover⟩
  · rintro ⟨rfl, hover⟩
    exact ⟨rfl, hover, fun j _ hj => absurd hj (Nat.not_lt_zero j)⟩

theorem firstOverAfter_succ {k : Nat} {s t u : State} (hstep : stepWith p s = .next u) :
    FirstOverAfter p target (k + 1) s t ↔ frameOver target s = false ∧ FirstOverAfter p target k u t := by
  unfold FirstOverAfter
  rw [repeatStep_succ hstep]
  constructor
  · rintro ⟨hrun, hover, hbefore⟩
    exact ⟨hbefore 0 s (Nat.succ_pos k) rfl, hrun, hover, fun j v hj hv =>
      hbefore (j + 1) v (Nat.succ_lt_succ hj) ((repeatStep_succ hstep).trans hv)⟩
  · rintro ⟨hs, hrun, hover, hbefore⟩
    refine ⟨hrun, hover, fun j v hj hv => ?_⟩
    cases j with
    | zero => cases hv; exact hs
    | succ j => exact hbefore j v (Nat.lt_of_succ_lt_succ hj) ((repeatStep_succ hstep).symm.trans hv)

theorem runTo_eq_next_iff {limit : Nat} {s t : State} :
    runTo p target limit s = some (.next t) ↔ ∃ k ≤ limit, FirstOverAfter p target k s t := by
  induction limit generalizing s with
  | zero =>
    simp only [Nat.le_zero, exists_eq_left, firstOverAfter_zero]
    constructor
    · intro h
      rcases runTo_next_cases h with ⟨hover, rfl⟩ | ⟨_, _, hl, -⟩
      · exact ⟨rfl, hover⟩
      · cases hl
    · rintro ⟨rfl, hover⟩
      exact runTo_over hover
  | succ limit ih =>
    constructor
    · intro h
      rcases runTo_next_cases h with ⟨hover, rfl⟩ | ⟨_, u, hl, hs, hstep, hrun⟩
      · exact ⟨0, Nat.zero_le _, firstOverAfter_zero.2 ⟨rfl, hover⟩⟩
      · cases hl
        obtain ⟨k, hk, hfirst⟩ := ih.1 hrun
        exact ⟨k + 1, Nat.succ_le_succ hk, (firstOverAfter_succ hstep).2 ⟨hs, hfirst⟩⟩
    · rintro ⟨k, hk, hfirst⟩
      cases k with
      | zero =>
        obtain ⟨rfl, hover⟩ := firstOverAfter_zero.1 hfirst
        exact runTo_over hover
      | succ k =>
        obtain ⟨u, hstep⟩ := stepWith_completes p s
        obtain ⟨hs, hfirst⟩ := (firstOverAfter_succ hstep).1 hfirst
        rw [runTo_succ hs hstep]
        exact ih.2 ⟨k, Nat.le_of_succ_le_succ hk, hfirst⟩

theorem runTo_answers_next {limit : Nat} {s : State} {r : Result} (h : runTo p target limit s = some r) :
    ∃ t, r = .next t := by
  induction limit generalizing s with
  | zero =>
    cases hs : frameOver target s
    · rw [runTo_zero hs] at h; cases h
    · rw [runTo_over hs] at h; cases h
      exact ⟨s, rfl⟩
  | succ limit ih =>
    cases hs : frameOver target s
    · obtain ⟨u, hstep⟩ := stepWith_completes p s
      rw [runTo_succ hs hstep] at h
      exact ih h
    · rw [runTo_over hs] at h; cases h
      exact ⟨s, rfl⟩

/-! ## The overrun -/

theorem stepWith_base_le {s t : State} (hstep : stepWith p s = .next t) : s.cpuClock.base ≤ t.cpuClock.base := by
  rcases stepWith_clock_cases hstep with ⟨-, rfl⟩ | ⟨-, -, hcpu, -⟩ | ⟨-, -, i, rest, -, hbase⟩
  · exact Nat.le_refl _
  · rw [hcpu]
  · omega

theorem runTo_base_le {limit : Nat} {s t : State} (h : runTo p target limit s = some (.next t)) :
    s.cpuClock.base ≤ t.cpuClock.base :=
  runTo_keeps (P := fun u => s.cpuClock.base ≤ u.cpuClock.base)
    (fun _ _ hle hstep => hle.trans (stepWith_base_le hstep)) (Nat.le_refl _) h

/-- The state answered is the start, or is reached by a step from a state at which the loop was not over. -/
theorem runTo_last_step {limit : Nat} {s t : State} (h : runTo p target limit s = some (.next t)) :
    t = s ∨ ∃ u, frameOver target u = false ∧ stepWith p u = .next t := by
  induction limit generalizing s with
  | zero =>
    rcases runTo_next_cases h with ⟨-, rfl⟩ | ⟨_, _, hl, -⟩
    · exact .inl rfl
    · cases hl
  | succ limit ih =>
    rcases runTo_next_cases h with ⟨-, rfl⟩ | ⟨_, u, hl, hs, hstep, hrun⟩
    · exact .inl rfl
    · cases hl
      rcases ih hrun with rfl | hlast
      · exact .inr ⟨s, hs, hstep⟩
      · exact .inr hlast

/-- The Clock passes the target, if at all, in the last step, by less than its cost. -/
theorem runTo_overrun {limit : Nat} {s t : State} (hle : s.cpuClock.base ≤ target)
    (h : runTo p target limit s = some (.next t)) :
    t.cpuClock.base ≤ target ∨
      ∃ (u : State) (i : Instr) (rest : List Byte), u.stopped = false ∧ u.cpuClock.base < target ∧
        decode p.implSet (codeBytes u) = .ok (i, rest) ∧ stepWith p u = .next t ∧
        t.cpuClock.base < target + handlerCost p i u := by
  rcases runTo_last_step h with rfl | ⟨u, hu, hstep⟩
  · exact .inl hle
  obtain ⟨hrun, hlt⟩ := (frameOver_eq_false_iff u).1 hu
  rcases stepWith_clock_cases hstep with ⟨-, rfl⟩ | ⟨-, -, hcpu, -⟩ | ⟨-, -, i, rest, hd, hbase⟩
  · exact .inl (by omega)
  · exact .inl (by rw [hcpu]; omega)
  · exact .inr ⟨u, i, rest, hrun, hlt, hd, hstep, by omega⟩

/-! ## The end -/

/-- Where every cost is positive, each step of the loop stops the CPU or moves its Clock. -/
theorem runTo_ends (hcost : ∀ i b, 1 ≤ p.cycles i b) {limit : Nat} {s : State}
    (hle : target ≤ s.cpuClock.base + limit) : ∃ t, runTo p target limit s = some (.next t) := by
  induction limit generalizing s with
  | zero => exact ⟨s, runTo_over ((frameOver_iff target s).2 (.inr hle))⟩
  | succ limit ih =>
    cases hs : frameOver target s
    · obtain ⟨u, hstep⟩ := stepWith_completes p s
      rw [runTo_succ hs hstep]
      rcases stepWith_clock_cases hstep with ⟨hstop, -⟩ | ⟨-, hstop, -⟩ | ⟨-, -, i, rest, -, hbase⟩
      · rw [((frameOver_eq_false_iff s).1 hs).1] at hstop; cases hstop
      · exact ⟨u, runTo_over ((frameOver_iff target u).2 (.inl hstop))⟩
      · have hpos : 1 ≤ handlerCost p i s := hcost i _
        exact ih (by omega)
    · exact ⟨s, runTo_over hs⟩

/-- Settles O20: the loop followed step by step, its last step, and the Clock as the measure of its end. -/
theorem runFrameBound : Obligations.RunFrameBound := by
  unfold Obligations.RunFrameBound
  refine ⟨fun p limit s t => ?answer, fun p limit s r h => runTo_answers_next h, fun p s t ⟨limit, h⟩ =>
    ⟨runTo_base_le h, runTo_overrun (Nat.le_add_right _ _) h⟩, fun p m s hcost => ?ends,
    fun p limit s hs => runTo_over ((frameOver_iff _ s).2 (.inl hs))⟩
  case answer =>
    simp only [← frameOver_iff, ← frameOver_eq_false_iff]
    exact runTo_eq_next_iff
  case ends =>
    obtain ⟨t, h⟩ := runTo_ends (fun i b => (hcost i b).1) (Nat.le_refl (s.cpuClock.base + p.frameBudget))
    refine ⟨t, h, (frameOver_iff _ t).1 (runTo_next_over h), runTo_base_le h, ?_⟩
    rcases runTo_overrun (Nat.le_add_right _ _) h with hle | ⟨u, i, rest, -, -, -, -, hlt⟩
    · have hm := hcost .xorA false
      omega
    · have hm : handlerCost p i u ≤ m := (hcost i _).2
      omega

end Sys2Proof.Machine
end

section
/-! What a register write shows of the registers and of memory (00_scope.md R22; 10_state.md R32), and what the accesses
to memory leave (20_memory.md R93, R100, R102). -/

namespace Sys2Proof.Machine

variable (s : State)

/-! ## Registers read back -/

@[simp] theorem reg8_setReg8 (r q : Reg8) (v : Byte) :
    (s.setReg8 r v).reg8 q = if q = r then v else s.reg8 q := by cases r <;> cases q <;> rfl

@[simp] theorem pair_setPair (q p : Pair) (w : Word) :
    (s.setPair q w).pair p = if p = q then w else s.pair p := by
  cases q <;> cases p
  case bc.bc | de.de | hl.hl => exact wordOf_hiByte_loByte w
  all_goals rfl

@[simp] theorem reg16_setReg16 (r q : Reg16) (w : Word) :
    (s.setReg16 r w).reg16 q = if q = r then w else s.reg16 q := by
  cases r <;> cases q
  case bc.bc | de.de | hl.hl => exact wordOf_hiByte_loByte w
  all_goals rfl

@[simp] theorem pair_setReg8_a (v : Byte) (q : Pair) : (s.setReg8 .a v).pair q = s.pair q := by cases q <;> rfl
@[simp] theorem reg8_memRead (a : Word) (r : Reg8) : (memRead s a).2.reg8 r = s.reg8 r := by
  rw [memRead_snd]; cases r <;> rfl
@[simp] theorem pair_memRead (a : Word) (q : Pair) : (memRead s a).2.pair q = s.pair q := by
  rw [memRead_snd]; cases q <;> rfl

/-! ## Frames of the register writes -/

theorem setReg8_otherRegsKept (r : Reg8) (v : Byte) : OtherRegsKept r s (s.setReg8 r v) := fun q hq => by
  rw [reg8_setReg8, if_neg hq]

theorem setReg8_onlyRegs (r : Reg8) (v : Byte) : OnlyRegs s (s.setReg8 r v) := by
  cases r <;> exact ⟨rfl, fun _ => rfl⟩

theorem setPair_onlyRegs (q : Pair) (w : Word) : OnlyRegs s (s.setPair q w) := by
  cases q <;> exact ⟨rfl, fun _ => rfl⟩

theorem setReg16_a (r : Reg16) (w : Word) : (s.setReg16 r w).a = s.a := by cases r <;> rfl

/-- A 16-bit operand that is no pair is SP. -/
theorem setReg16_onlyRegs (r : Reg16) (w : Word) :
    OnlyRegs { s with sp := (s.setReg16 r w).sp } (s.setReg16 r w) := by
  cases r <;> exact ⟨rfl, fun _ => rfl⟩

/-! ## Frames of the memory accesses -/

theorem memRead_afterOneRead (a : Word) : AfterOneRead a s (memRead s a).2 := by
  rw [memRead_snd]
  exact ⟨rfl, fun x hx => peek_bootFlag s x _ hx, rfl⟩

/-- What is done to the registers after a read is in the read's frame. -/
theorem AfterOneRead.trans_onlyRegs {a : Word} {s t u : State} (hread : AfterOneRead a s t) (hregs : OnlyRegs t u) :
    AfterOneRead a s u := by
  obtain ⟨hflag, hbytes, ht⟩ := hread
  obtain ⟨hu, hkept⟩ := hregs
  have hsame : u.bootFlag = t.bootFlag := by rw [hu]
  refine ⟨hsame.trans hflag, fun x hx => (hkept x).trans (hbytes x (hsame ▸ hx)), ?_⟩
  rw [hu, ht]

theorem memWrite_storeEffect (a : Word) (v : Byte) : StoreEffect a v s (memWrite s a v) :=
  ⟨rfl, memWrite_storesOneByte s a v, memWrite_onlyStores s a v⟩

/-- A byte write neither reads nor writes a pair. -/
theorem memWrite_setPair (q : Pair) (w a : Word) (v : Byte) :
    memWrite (s.setPair q w) a v = (memWrite s a v).setPair q w := by
  unfold memWrite
  rw [setPair_bootFlag]
  cases q <;> cases route s.bootFlag a <;> rfl

end Sys2Proof.Machine
end

section
/-! The loads (41_loads.md R180 to R193). -/

namespace Sys2Proof.Machine

/-! ## The handlers of a family of loads -/

theorem exec_ldRegImm (r : Reg8) (n : Byte) : exec (.ldRegImm r n) = loadImm r n := by cases r <;> rfl
theorem exec_ldPairImm (r : Reg16) (nn : Word) : exec (.ldPairImm r nn) = loadImm16 r nn := by cases r <;> rfl
theorem exec_ldRegReg (dst src : Reg8) : exec (.ldRegReg dst src) = copyReg dst src := by
  cases dst <;> cases src <;> rfl
theorem exec_ldRegAtHl (r : Reg8) : exec (.ldRegAtHl r) = loadFromHl r := by cases r <;> rfl
theorem exec_ldAtHlReg (r : Reg8) : exec (.ldAtHlReg r) = storeAtHl r := by cases r <;> rfl

/-! ## What the shared operations do -/

/-- The byte read at an address and put into a register (R185, R186, R191). -/
theorem memRead_setReg8_loadEffect (s : State) (r : Reg8) (a : Word) :
    LoadEffect r a s ((memRead s a).2.setReg8 r (memRead s a).1) := by
  refine ⟨?_, fun q hq => ?_, ?_, (memRead_afterOneRead s a).trans_onlyRegs (setReg8_onlyRegs _ r _)⟩
  · rw [reg8_setReg8, if_pos rfl, memRead_fst]
  · rw [setReg8_otherRegsKept _ _ _ q hq, reg8_memRead]
  · rw [setReg8_f, memRead_snd]

theorem loadAFrom_loadEffect (s : State) (a : Word) : ∃ t, loadAFrom a s = .next t ∧ LoadEffect .a a s t :=
  ⟨_, rfl, memRead_setReg8_loadEffect s .a a⟩

theorem storeAAt_storeEffect (s : State) (a : Word) : ∃ t, storeAAt a s = .next t ∧ StoreEffect a s.a s t :=
  ⟨_, rfl, memWrite_storeEffect s a s.a⟩

/-- A is loaded through HL before HL moves (R188, R190). -/
theorem loadAFromHlThenMove_effect (s : State) (moved : Word) :
    ∃ t, loadAFromHlThenMove moved s = .next t ∧ t.a = peek s (s.pair .hl) ∧ t.pair .hl = moved ∧
      t.pair .bc = s.pair .bc ∧ t.pair .de = s.pair .de ∧ t.f = s.f ∧ AfterOneRead (s.pair .hl) s t := by
  obtain ⟨ha, -, hf, hread⟩ := memRead_setReg8_loadEffect s .a (s.pair .hl)
  refine ⟨_, rfl, ha, ?_, ?_, ?_, hf, hread.trans_onlyRegs (setPair_onlyRegs _ .hl moved)⟩
  all_goals simp [readAtHl]

/-- A is stored through HL before HL moves, which is the store alone on the state with HL moved (R187, R189). -/
theorem storeAAtHlThenMove_effect (s : State) (moved : Word) :
    ∃ t, storeAAtHlThenMove moved s = .next t ∧ t.pair .hl = moved ∧
      StoreEffect (s.pair .hl) s.a { s with h := t.h, l := t.l } t := by
  refine ⟨_, rfl, by rw [pair_setPair, if_pos rfl], ?_⟩
  have hstore := memWrite_storeEffect (s.setPair .hl moved) (s.pair .hl) s.a
  rw [memWrite_setPair] at hstore
  exact hstore

/-! ## The loads through a pointer -/

/-- Settles O24: the read is at the old HL, whichever register takes the byte. -/
theorem loadThroughHl : Obligations.LoadThroughHl := by
  unfold Obligations.LoadThroughHl
  refine fun r s => ⟨encode_ldRegAtHl r, _, congrFun (exec_ldRegAtHl r) s, ?_⟩
  exact memRead_setReg8_loadEffect s r (s.pair .hl)

/-- Settles O25: both forms are one byte write at HL, and 0x76 is among the undefined bytes. -/
theorem storeThroughHl : Obligations.StoreThroughHl := by
  unfold Obligations.StoreThroughHl
  refine ⟨fun r s => ⟨encode_ldAtHlReg r, _, congrFun (exec_ldAtHlReg r) s, memWrite_storeEffect s _ _⟩,
    (lookup_primary_eq_none_iff 0x76#8).2 (.inr (by decide)), fun n s => ⟨rfl, _, rfl, memWrite_storeEffect s _ n⟩⟩

/-- Settles O26: two plain loads of A, and two whose pointer then moves. -/
theorem loadAThroughPointer : Obligations.LoadAThroughPointer := by
  unfold Obligations.LoadAThroughPointer
  exact fun s => ⟨⟨rfl, loadAFrom_loadEffect s _⟩, ⟨rfl, loadAFrom_loadEffect s _⟩,
    ⟨rfl, loadAFromHlThenMove_effect s _⟩, ⟨rfl, loadAFromHlThenMove_effect s _⟩⟩

/-- Settles O27: two plain stores of A, and two whose pointer then moves. -/
theorem storeAThroughPointer : Obligations.StoreAThroughPointer := by
  unfold Obligations.StoreAThroughPointer
  exact fun s => ⟨⟨rfl, storeAAt_storeEffect s _⟩, ⟨rfl, storeAAt_storeEffect s _⟩,
    ⟨rfl, storeAAtHlThenMove_effect s _⟩, ⟨rfl, storeAAtHlThenMove_effect s _⟩⟩

/-! ## The loads of the registers alone -/

/-- Settles O21: one register write. -/
theorem loadImmediate : Obligations.LoadImmediate := by
  unfold Obligations.LoadImmediate
  refine fun r n s => ⟨encode_ldRegImm r n, _, congrFun (exec_ldRegImm r n) s, ?_, setReg8_otherRegsKept s r n,
    setReg8_onlyRegs s r n⟩
  rw [reg8_setReg8, if_pos rfl]

/-- Settles O22: one write of a 16-bit operand. -/
theorem loadImmediate16 : Obligations.LoadImmediate16 := by
  unfold Obligations.LoadImmediate16
  refine ⟨fun r nn s => ⟨encode_ldPairImm r nn, _, congrFun (exec_ldPairImm r nn) s, ?_, fun q hq => ?_,
    setReg16_a s r nn, setReg16_onlyRegs s r nn⟩, fun nn s => ⟨rfl, rfl, rfl, rfl⟩⟩
  · rw [reg16_setReg16, if_pos rfl]
  · rw [reg16_setReg16, if_neg hq]

/-- Settles O23: one register write of the other register's old value. -/
theorem copyRegister : Obligations.CopyRegister := by
  unfold Obligations.CopyRegister
  refine fun dst src s => ⟨encode_ldRegReg dst src, _, congrFun (exec_ldRegReg dst src) s, ?_,
    setReg8_otherRegsKept s dst _, setReg8_onlyRegs s dst _⟩
  rw [reg8_setReg8, if_pos rfl]

end Sys2Proof.Machine
end

section
/-! The flags an instruction writes (10_state.md R40 to R42), and the half carry as the carry out of the low nibble
(43_alu.md R205, R206). -/

namespace Sys2Proof.Machine

/-! ## F built from its four flag bits -/

theorem bitSet_packFlags : ∀ z n h c : Bool, bitSet (packFlags z n h c) 7 = z ∧ bitSet (packFlags z n h c) 6 = n ∧
    bitSet (packFlags z n h c) 5 = h ∧ bitSet (packFlags z n h c) 4 = c := by decide

theorem flagsAre_of_f_eq {t : State} {z n h c : Bool} (hf : t.f = packFlags z n h c) : FlagsAre t z n h c := by
  obtain ⟨hz, hn, hh, hc⟩ := bitSet_packFlags z n h c
  rw [← hf] at hz hn hh hc
  exact ⟨hz, hn, hh, hc, hf ▸ packFlags_lowZero z n h c⟩

theorem FlagsAre.hFlag_eq {t : State} {z n h c : Bool} (hflags : FlagsAre t z n h c) : t.hFlag = h := by
  obtain ⟨-, -, hh, -, -⟩ := hflags
  exact hh

/-- An operation that writes F and then one register leaves all else, memory included. -/
theorem setFlags_setReg8_effect (s : State) (r : Reg8) (v : Byte) (z n h c : Bool) {t : State}
    (ht : t = { s with f := packFlags z n h c }.setReg8 r v) :
    t.reg8 r = v ∧ OtherRegsKept r s t ∧ FlagsAre t z n h c ∧ OnlyRegsAndFlags s t := by
  subst ht
  refine ⟨by rw [reg8_setReg8, if_pos rfl], setReg8_otherRegsKept { s with f := _ } r v,
    flagsAre_of_f_eq (setReg8_f _ r v), ?_⟩
  cases r <;> exact ⟨rfl, fun _ => rfl⟩

/-! ## The half carry -/

theorem halfCarry_eq_xor_getLsbD (res v a : Byte) :
    halfCarry res v a = (res.getLsbD 4 ^^ v.getLsbD 4 ^^ a.getLsbD 4) := by
  have hbit : halfCarry res v a = (res ^^^ v ^^^ a).getLsbD 4 := by
    rw [halfCarry, show 0x10#8 = BitVec.twoPow 8 4 from rfl, BitVec.and_twoPow]
    cases (res ^^^ v ^^^ a).getLsbD 4 <;> rfl
  rw [hbit, BitVec.getLsbD_xor, BitVec.getLsbD_xor]

/-- Bit 4 of a sum is the two bits and the carry into them. -/
theorem halfCarry_add (a v : Byte) : halfCarry (a + v) v a = decide (16 ≤ a.toNat % 16 + v.toNat % 16) := by
  have hcarry : halfCarry (a + v) v a = BitVec.carry 4 a v false := by
    rw [halfCarry_eq_xor_getLsbD, BitVec.getLsbD_add (by decide)]
    cases a.getLsbD 4 <;> cases v.getLsbD 4 <;> simp
  rw [hcarry]
  rfl

theorem halfCarry_comm (res v a : Byte) : halfCarry res v a = halfCarry a v res := by
  rw [halfCarry, halfCarry, BitVec.xor_comm, BitVec.xor_comm res, BitVec.xor_assoc]

/-- A difference borrows from bit 4 where adding the subtrahend back carries into it. -/
theorem halfCarry_sub (a v : Byte) : halfCarry (a - v) v a = decide (a.toNat % 16 < v.toNat % 16) := by
  have hback := halfCarry_add (a - v) v
  rw [BitVec.sub_add_cancel, halfCarry_comm, BitVec.toNat_sub] at hback
  rw [hback, decide_eq_decide]
  omega

theorem toNat_lowNibble (v : Byte) : (v &&& 0x0F#8).toNat = v.toNat % 16 := Nat.and_two_pow_sub_one_eq_mod v.toNat 4

/-- Adding one carries out of the low nibble exactly when the nibble is 0xF (R200). -/
theorem halfCarry_add_one (old : Byte) : halfCarry (old + 1#8) 1#8 old = (old &&& 0x0F#8 == 0x0F#8) := by
  rw [halfCarry_add, beq_eq_decide, decide_eq_decide, ← BitVec.toNat_inj, toNat_lowNibble]
  simp only [BitVec.toNat_ofNat]
  omega

/-- Subtracting one borrows into the low nibble exactly when the nibble is 0x0 (R201). -/
theorem halfCarry_sub_one (old : Byte) : halfCarry (old - 1#8) 1#8 old = (old &&& 0x0F#8 == 0x00#8) := by
  rw [halfCarry_sub, beq_eq_decide, decide_eq_decide, ← BitVec.toNat_inj, toNat_lowNibble]
  simp only [BitVec.toNat_ofNat]
  omega

end Sys2Proof.Machine
end

section
/-! Increment and decrement (42_incdec.md R200 to R203). -/

namespace Sys2Proof.Machine

/-! ## The handlers of a family -/

theorem exec_incReg (r : Reg8) : exec (.incReg r) = incReg8 r := by cases r <;> rfl
theorem exec_decReg (r : Reg8) : exec (.decReg r) = decReg8 r := by cases r <;> rfl
theorem exec_incPair (r : Reg16) : exec (.incPair r) = incReg16 r := by cases r <;> rfl

/-! ## What the shared operations do -/

theorem incReg8_effect (r : Reg8) (s : State) :
    ∃ t, incReg8 r s = .next t ∧ t.reg8 r = s.reg8 r + 1#8 ∧ OtherRegsKept r s t ∧
      FlagsAre t (s.reg8 r + 1#8 == 0x00#8) false (halfCarry (s.reg8 r + 1#8) 1#8 (s.reg8 r)) s.cFlag ∧
      OnlyRegsAndFlags s t :=
  ⟨_, rfl, setFlags_setReg8_effect s r _ _ _ _ _ rfl⟩

theorem decReg8_effect (r : Reg8) (s : State) :
    ∃ t, decReg8 r s = .next t ∧ t.reg8 r = s.reg8 r - 1#8 ∧ OtherRegsKept r s t ∧
      FlagsAre t (s.reg8 r - 1#8 == 0x00#8) true (halfCarry (s.reg8 r - 1#8) 1#8 (s.reg8 r)) s.cFlag ∧
      OnlyRegsAndFlags s t :=
  ⟨_, rfl, setFlags_setReg8_effect s r _ _ _ _ _ rfl⟩

/-! ## The statements -/

/-- Settles O30: one write of F and of the register, whose half carry is the carry out of the low nibble. -/
theorem incrementRegister : Obligations.IncrementRegister := by
  unfold Obligations.IncrementRegister
  refine ⟨fun r s => ?_, (lookup_primary_eq_none_iff 0x34#8).2 (.inr (by decide))⟩
  obtain ⟨t, hexec, hreg, hothers, hflags, honly⟩ := incReg8_effect r s
  have hhalf := hflags.hFlag_eq.trans (halfCarry_add_one (s.reg8 r))
  refine ⟨encode_incReg r, t, (congrFun (exec_incReg r) s).trans hexec, hreg, hothers, ?_, hhalf, honly⟩
  rw [hreg]
  exact hflags

/-- Settles O31: one write of F and of the register, whose half carry is the borrow into the low nibble. -/
theorem decrementRegister : Obligations.DecrementRegister := by
  unfold Obligations.DecrementRegister
  refine ⟨fun r s => ?_, (lookup_primary_eq_none_iff 0x35#8).2 (.inr (by decide))⟩
  obtain ⟨t, hexec, hreg, hothers, hflags, honly⟩ := decReg8_effect r s
  have hhalf := hflags.hFlag_eq.trans (halfCarry_sub_one (s.reg8 r))
  refine ⟨encode_decReg r, t, (congrFun (exec_decReg r) s).trans hexec, hreg, hothers, ?_, hhalf, honly⟩
  rw [hreg]
  exact hflags

/-- Settles O32: one write of a 16-bit operand, F not among what it reaches. -/
theorem increment16 : Obligations.Increment16 := by
  unfold Obligations.Increment16
  refine ⟨fun r s => ⟨encode_incPair r, _, congrFun (exec_incPair r) s, ?_, fun q hq => ?_, setReg16_a s r _,
    setReg16_onlyRegs s r _⟩, fun s => ⟨rfl, rfl⟩⟩
  · rw [reg16_setReg16, if_pos rfl]
  · rw [reg16_setReg16, if_neg hq]

end Sys2Proof.Machine
end

section
/-! Arithmetic, compare and XOR A (43_alu.md R205 to R222). -/

namespace Sys2Proof.Machine

/-! ## The handlers of a family -/

theorem exec_addReg (r : Reg8) (s : State) : exec (.addReg r) s = addByte (s.reg8 r) s := by cases r <;> rfl
theorem exec_subReg (r : Reg8) (s : State) : exec (.subReg r) s = subByte (s.reg8 r) s := by cases r <;> rfl
theorem exec_cpReg (r : Reg8) (s : State) : exec (.cpReg r) s = compareByte (s.reg8 r) s := by cases r <;> rfl

/-! ## What the shared operations do -/

theorem addByte_effect (v : Byte) (s : State) :
    ∃ t, addByte v s = .next t ∧ AddsToA v s t ∧ OnlyRegsAndFlags s t := by
  obtain ⟨ha, hothers, hflags, honly⟩ := setFlags_setReg8_effect s .a (s.a + v) _ _ _ _ rfl
  exact ⟨_, rfl, ⟨ha, hothers, hflags⟩, honly⟩

theorem subByte_effect (v : Byte) (s : State) :
    ∃ t, subByte v s = .next t ∧ SubtractsFromA v s t ∧ OnlyRegsAndFlags s t := by
  obtain ⟨ha, hothers, hflags, honly⟩ := setFlags_setReg8_effect s .a (s.a - v) _ _ _ _ rfl
  exact ⟨_, rfl, ⟨ha, hothers, hflags⟩, honly⟩

theorem compareByte_effect (v : Byte) (s : State) :
    ∃ t, compareByte v s = .next t ∧ ComparesWithA v s t ∧ OnlyRegsAndFlags s t :=
  ⟨_, rfl, ⟨fun r => by cases r <;> rfl, flagsAre_of_f_eq rfl⟩, rfl, fun _ => rfl⟩

/-- What is done to the registers and F after a read is in the read's frame. -/
theorem AfterOneRead.trans_onlyRegsAndFlags {a : Word} {s t u : State} (hread : AfterOneRead a s t)
    (hregs : OnlyRegsAndFlags t u) : AfterOneRead a s u := by
  obtain ⟨hflag, hbytes, ht⟩ := hread
  have hreadF : AfterOneRead a s { t with f := u.f } := ⟨hflag, hbytes, by rw [ht]⟩
  exact hreadF.trans_onlyRegs hregs

/-- An operation on the byte at HL has the effect of the operation on that byte, where the effect does not speak of the
boot flag, which the read may clear (R211, R214, R217). -/
theorem readAtHl_effect {op : Byte → State → Result} {Effect : Byte → State → State → Prop}
    (hop : ∀ v s, ∃ t, op v s = .next t ∧ Effect v s t ∧ OnlyRegsAndFlags s t)
    (hboot : ∀ v s t b, Effect v { s with bootFlag := b } t → Effect v s t) (s : State) :
    ∃ t, op (readAtHl s).1 (readAtHl s).2 = .next t ∧ Effect (peek s (s.pair .hl)) s t ∧
      AfterOneRead (s.pair .hl) s t := by
  obtain ⟨t, hnext, heffect, honly⟩ := hop (readAtHl s).1 (readAtHl s).2
  refine ⟨t, hnext, ?_, (memRead_afterOneRead s (s.pair .hl)).trans_onlyRegsAndFlags honly⟩
  rw [readAtHl, memRead_eq] at heffect
  exact hboot _ _ _ _ heffect

/-! ## The flags -/

theorem FlagsAre.cFlag_eq {t : State} {z n h c : Bool} (hflags : FlagsAre t z n h c) : t.cFlag = c := by
  obtain ⟨-, -, -, hc, -⟩ := hflags
  exact hc

theorem AddsToA.hFlag_eq {v : Byte} {s t : State} (h : AddsToA v s t) :
    t.hFlag = decide (s.a.toNat % 16 + v.toNat % 16 > 0xF) := by
  obtain ⟨ha, -, hflags⟩ := h
  rw [ha] at hflags
  exact hflags.hFlag_eq.trans (halfCarry_add s.a v)

theorem SubtractFlags.hFlag_eq {v : Byte} {s t : State} (h : SubtractFlags v s t) :
    t.hFlag = decide (s.a.toNat % 16 < v.toNat % 16) :=
  (FlagsAre.hFlag_eq h).trans (halfCarry_sub s.a v)

/-- A sum of two bytes wraps exactly when it falls below a summand. -/
theorem toNat_add_lt_iff (a v : Byte) : (a + v).toNat < v.toNat ↔ a.toNat + v.toNat > 0xFF := by
  have ha := a.isLt
  have hv := v.isLt
  rw [BitVec.toNat_add]
  omega

/-! ## The laws between the operations -/

/-- CP is SUB with the old A put back (R221). -/
theorem compareByte_eq_subByte_restored (v : Byte) (s : State) :
    ∃ t u, compareByte v s = .next t ∧ subByte v s = .next u ∧ t = { u with a := s.a } := ⟨_, _, rfl, rfl, rfl⟩

/-- The borrow of the SUB is the carry of the ADD (R222). -/
theorem subByte_undoes_addByte {v : Byte} {s t u : State} (hadd : AddsToA v s t) (hsub : SubtractsFromA v t u) :
    u.a = s.a ∧ u.cFlag = t.cFlag := by
  obtain ⟨hta, -, htflags⟩ := hadd
  obtain ⟨hua, -, huflags⟩ := hsub
  refine ⟨by rw [hua, hta, BitVec.add_sub_cancel], ?_⟩
  rw [huflags.cFlag_eq, htflags.cFlag_eq, hta, decide_eq_decide]
  exact toNat_add_lt_iff s.a v

/-! ## The statements -/

/-- Settles O33: the operation of each form is AddOp, on a register, on the byte at HL, on the operand byte. -/
theorem addToA : Obligations.AddToA := by
  unfold Obligations.AddToA
  refine ⟨fun r s => ⟨encode_addReg r, ?_⟩, fun s => ⟨rfl, readAtHl_effect addByte_effect (fun _ _ _ _ h => h) s⟩,
    fun n s => ⟨rfl, addByte_effect n s⟩⟩
  rw [exec_addReg]
  exact addByte_effect _ s

/-- Settles O34: the operation of each form is SubOp with the result stored. -/
theorem subtractFromA : Obligations.SubtractFromA := by
  unfold Obligations.SubtractFromA
  refine ⟨fun r s => ⟨encode_subReg r, ?_⟩, fun s => ⟨rfl, readAtHl_effect subByte_effect (fun _ _ _ _ h => h) s⟩,
    fun n s => ⟨rfl, subByte_effect n s⟩⟩
  rw [exec_subReg]
  exact subByte_effect _ s

/-- Settles O35: the operation of each form is SubOp with the result dropped. -/
theorem compareWithA : Obligations.CompareWithA := by
  unfold Obligations.CompareWithA
  refine ⟨fun r s => ⟨encode_cpReg r, ?_⟩, fun s => ⟨rfl, readAtHl_effect compareByte_effect (fun _ _ _ _ h => h) s⟩,
    fun n s => ⟨rfl, compareByte_effect n s⟩⟩
  rw [exec_cpReg]
  exact compareByte_effect _ s

/-- Settles O44: H of each effect is the carry or borrow of the low nibble. -/
theorem halfCarryIsNibbleCarry : Obligations.HalfCarryIsNibbleCarry := by
  unfold Obligations.HalfCarryIsNibbleCarry
  intro n s
  obtain ⟨t, hadd, haddEffect, -⟩ := addByte_effect n s
  obtain ⟨u, hsub, ⟨-, -, hsubFlags⟩, -⟩ := subByte_effect n s
  obtain ⟨w, hcp, ⟨-, hcpFlags⟩, -⟩ := compareByte_effect n s
  exact ⟨⟨t, hadd, haddEffect.hFlag_eq⟩, ⟨u, hsub, hsubFlags.hFlag_eq⟩, ⟨w, hcp, hcpFlags.hFlag_eq⟩⟩

/-- Settles O45: CP is SubOp with A put back in every form, the read at HL leaving A; SUB after ADD is two effects in a
row. -/
theorem addSubtractCompareLaws : Obligations.AddSubtractCompareLaws := by
  unfold Obligations.AddSubtractCompareLaws
  refine ⟨fun r n s => ⟨?_, ?_, compareByte_eq_subByte_restored n s⟩, fun n s => ?_⟩
  · rw [exec_cpReg, exec_subReg]
    exact compareByte_eq_subByte_restored _ s
  · have ha : (readAtHl s).2.a = s.a := reg8_memRead s _ .a
    rw [← ha]
    exact compareByte_eq_subByte_restored (readAtHl s).1 (readAtHl s).2
  · obtain ⟨t, hadd, haddEffect, -⟩ := addByte_effect n s
    obtain ⟨u, hsub, hsubEffect, -⟩ := subByte_effect n t
    exact ⟨t, u, hadd, hsub, subByte_undoes_addByte haddEffect hsubEffect⟩

/-- The bytes of XOR but for XOR A, those of AND and those of OR, registers and (HL) first, then the immediates. -/
theorem mem_undefinedPrimary_of_logical : ∀ op : Byte,
    (0xA0#8 ≤ op ∧ op ≤ 0xAE#8) ∨ (0xB0#8 ≤ op ∧ op ≤ 0xB7#8) ∨ op = 0xE6#8 ∨ op = 0xEE#8 ∨ op = 0xF6#8 →
    op ∈ undefinedPrimary := by decide

/-- Settles O36: the handler writes A and F alone, and every other logical byte is among the undefined ones. -/
theorem xorA : Obligations.XorA := by
  unfold Obligations.XorA
  exact ⟨fun s => ⟨rfl, rfl⟩, fun op hop =>
    (lookup_primary_eq_none_iff op).2 (.inr (mem_undefinedPrimary_of_logical op hop))⟩

end Sys2Proof.Machine
end

section
/-! Rotate left through carry and bit test (44_rotate_bit.md R229 to R234). -/

namespace Sys2Proof.Machine

/-! ## The handlers of a family -/

theorem exec_rlReg (r : Reg8) : exec (.rlReg r) = rotateReg r := by cases r <;> rfl
theorem exec_bitReg (b : BitNo) (r : Reg8) : exec (.bitReg b r) = testRegBit b.toNat r := by
  cases b <;> cases r <;> rfl
theorem exec_bitAtHl (b : BitNo) : exec (.bitAtHl b) = testBitAtHl b.toNat := by cases b <;> rfl

/-! ## Rotation -/

theorem rotateReg_effect (r : Reg8) (s : State) : ∃ t, rotateReg r s = .next t ∧ RotatesLeft r s t := by
  obtain ⟨t, ht⟩ : ∃ t, t = { s with f := rotateFlags (s.reg8 r) s.cFlag }.setReg8 r (rotateLeft (s.reg8 r) s.cFlag) :=
    ⟨_, rfl⟩
  obtain ⟨hreg, hothers, hflags, honly⟩ := setFlags_setReg8_effect s r _ _ _ _ _ ht
  refine ⟨t, ht ▸ rfl, hreg, hothers, ?_, honly⟩
  rw [hreg]
  exact hflags

/-- Settles O37: RLA and RL r are one operation, RotL on a register, and the byte of RL (HL) is among the undefined
ones. (In the namespace `Machine` the name `rotateLeft` is the model's.) -/
theorem RotateBit.rotateLeft : Obligations.RotateLeft := by
  unfold Obligations.RotateLeft
  refine ⟨fun r s => ⟨encode_rlReg r, ?_⟩, fun s => ⟨rfl, rotateReg_effect .a s⟩, fun s => rfl, fun b => ?_,
    (lookup_extended_eq_none_iff 0x16#8).2 (by decide)⟩
  · rw [exec_rlReg]
    exact rotateReg_effect r s
  · cases b <;> decide

/-! ## The period of the rotation -/

theorem OtherRegsKept.trans {r : Reg8} {s t u : State} (hst : OtherRegsKept r s t) (htu : OtherRegsKept r t u) :
    OtherRegsKept r s u := fun q hq => (htu q hq).trans (hst q hq)

theorem bitVec_rotateLeft_zero {w : Nat} (x : BitVec w) : x.rotateLeft 0 = x := by
  simp [BitVec.rotateLeft_def, BitVec.ushiftRight_eq_zero]

/-- Rotations of a bit vector add up. -/
theorem bitVec_rotateLeft_rotateLeft {w : Nat} (x : BitVec w) (m n : Nat) :
    (x.rotateLeft m).rotateLeft n = x.rotateLeft (m + n) := by
  refine BitVec.eq_of_getMsbD_eq fun i hi => ?_
  have hmod : (n + i) % w < w := Nat.mod_lt _ (Nat.zero_lt_of_lt hi)
  simp only [BitVec.getMsbD_rotateLeft, hi, hmod, decide_true, Bool.true_and, Nat.add_mod_mod, Nat.add_assoc]

/-- C above the bits of a register: the nine bits that RL moves around. -/
def carryAndReg (r : Reg8) (s : State) : BitVec 9 := BitVec.cons s.cFlag (s.reg8 r)

/-- C and the register are read back from the nine bits. -/
theorem carryAndReg_eq_cons_iff {r : Reg8} {t : State} {c : Bool} {v : Byte} :
    carryAndReg r t = BitVec.cons c v ↔ t.cFlag = c ∧ t.reg8 r = v := by
  refine ⟨fun h => ⟨?_, ?_⟩, fun ⟨hc, hv⟩ => by rw [carryAndReg, hc, hv]⟩
  · simpa [carryAndReg] using congrArg BitVec.msb h
  · simpa [carryAndReg] using congrArg (BitVec.setWidth 8) h

/-- RL rotates the nine bits by one place: C enters at bit 0, bit 7 leaves to C and the others move up (R229). -/
theorem RotatesLeft.carryAndReg_eq {r : Reg8} {s t : State} (h : RotatesLeft r s t) :
    carryAndReg r t = (carryAndReg r s).rotateLeft 1 := by
  obtain ⟨hreg, -, hflags, -⟩ := h
  have hcarry : t.cFlag = (s.reg8 r).getLsbD 7 := hflags.cFlag_eq.trans (bitSet_eq_getLsbD (s.reg8 r) 7)
  rw [carryAndReg, carryAndReg, hreg, hcarry]
  ext i hi
  cases i with
  | zero => cases s.cFlag <;> simp [BitVec.getElem_cons, BitVec.getElem_rotateLeft]
  | succ i =>
    have hlow (h : i + 1 < 8) : (if s.cFlag then 0x01#8 else 0x00#8)[i + 1] = false := by
      cases s.cFlag <;> simp
    obtain rfl | hne := eq_or_ne i 7
    · simp [BitVec.getElem_cons, BitVec.getElem_rotateLeft]
    · simp [BitVec.getElem_cons, BitVec.getElem_rotateLeft, hlow, hne, show i ≠ 8 by omega]

/-- `n` RL of one register rotate its nine bits by `n` places. -/
theorem repeatExec_rlReg_effect (r : Reg8) (n : Nat) (s : State) :
    ∃ t, repeatExec (.rlReg r) n s = .next t ∧ carryAndReg r t = (carryAndReg r s).rotateLeft n ∧
      OtherRegsKept r s t := by
  induction n generalizing s with
  | zero => exact ⟨s, rfl, (bitVec_rotateLeft_zero _).symm, fun _ _ => rfl⟩
  | succ n ih =>
    obtain ⟨u, hexec, hrot⟩ := rotateReg_effect r s
    obtain ⟨t, hrun, hbits, hothers⟩ := ih u
    have ⟨_, hkept, _⟩ := hrot
    refine ⟨t, ?_, ?_, hkept.trans hothers⟩
    · rw [repeatExec, exec_rlReg, hexec]
      exact hrun
    · rw [hbits, hrot.carryAndReg_eq, bitVec_rotateLeft_rotateLeft, Nat.add_comm]

/-- Settles O46: a rotation of nine bits by nine places is none; by eight it takes bit 0 to C. -/
theorem rotatePeriod : Obligations.RotatePeriod := by
  unfold Obligations.RotatePeriod
  refine ⟨fun r s => ?_, fun r s hreg hcarry => ?_⟩
  · obtain ⟨t, hrun, hbits, hothers⟩ := repeatExec_rlReg_effect r 9 s
    have hnine : (carryAndReg r s).rotateLeft 9 = carryAndReg r s := by
      rw [← BitVec.rotateLeft_mod_eq_rotateLeft]
      exact bitVec_rotateLeft_zero _
    obtain ⟨hc, hr⟩ := carryAndReg_eq_cons_iff.1 (hbits.trans hnine)
    exact ⟨t, hrun, hr, hc, hothers⟩
  · obtain ⟨t, hrun, hbits, -⟩ := repeatExec_rlReg_effect r 8 s
    have hlast : (carryAndReg r s).rotateLeft 8 = BitVec.cons true 0x00#8 := by
      rw [carryAndReg_eq_cons_iff.2 ⟨hcarry, hreg⟩]
      decide
    obtain ⟨hc, hr⟩ := carryAndReg_eq_cons_iff.1 (hbits.trans hlast)
    exact ⟨t, hrun, hr, hc⟩

/-! ## Bit test -/

/-- A bit that is not set is clear. -/
theorem not_bitSet_eq (v : Byte) (k : Nat) : (!bitSet v k) = ((v >>> k) &&& 0x01#8 == 0x00#8) := by
  rw [bitSet, BitVec.and_one_eq_setWidth_ofBool_getLsbD]
  cases (v >>> k).getLsbD 0 <;> rfl

/-- The test of bit `k` of a byte, which the two forms of BIT make of a register and of the byte at HL. -/
def testByteBit (k : Nat) (v : Byte) (s : State) : Result := .next { s with f := bitFlags v k s.cFlag }

theorem testRegBit_eq (k : Nat) (r : Reg8) (s : State) : testRegBit k r s = testByteBit k (s.reg8 r) s := rfl
theorem testBitAtHl_eq (k : Nat) (s : State) : testBitAtHl k s = testByteBit k (readAtHl s).1 (readAtHl s).2 := rfl

theorem testByteBit_effect (k : Nat) (v : Byte) (s : State) :
    ∃ t, testByteBit k v s = .next t ∧ TestsBit k v s t ∧ OnlyRegsAndFlags s t := by
  refine ⟨_, rfl, ⟨?_, fun r => by cases r <;> rfl⟩, rfl, fun _ => rfl⟩
  rw [← not_bitSet_eq]
  exact flagsAre_of_f_eq rfl

/-- Settles O38: one bit test, of a register and of the byte read at HL. -/
theorem bitTest : Obligations.BitTest := by
  unfold Obligations.BitTest
  refine ⟨fun b r s => ⟨encode_bitReg b r, ?_⟩, fun b s => ⟨encode_bitAtHl b, ?_⟩⟩
  · rw [exec_bitReg, testRegBit_eq]
    exact testByteBit_effect b.toNat (s.reg8 r) s
  · rw [exec_bitAtHl, testBitAtHl_eq]
    exact readAtHl_effect (testByteBit_effect b.toNat) (fun _ _ _ _ h => h) s

end Sys2Proof.Machine
end

section
/-! Call, restart and return (45_control.md R243 to R245). -/

namespace Sys2Proof.Machine

/-! ## The push of PC -/

@[simp] theorem pushPc_sp (s : State) : (pushPc s).sp = s.sp - 2#16 := memWrite16_sp _ _ _

/-- The word goes where SP has moved, and no byte depends on SP. -/
theorem pushPc_storesOneWord (s : State) : StoresOneWord (s.sp - 2#16) s.pc s (pushPc s) :=
  memWrite16_storesOneWord { s with sp := s.sp - 2#16 } (s.sp - 2#16) s.pc

theorem pushPc_onlyStores (s : State) : OnlyStores { s with sp := (pushPc s).sp } (pushPc s) := by
  rw [pushPc_sp]
  exact memWrite16_onlyStores _ _ _

/-- A jump on both sides keeps what the stores reach. -/
theorem OnlyStores.setPc {s t : State} (h : OnlyStores s t) (target : Word) :
    OnlyStores { s with pc := target } { t with pc := target } := by
  obtain ⟨hstores, hly⟩ := h
  exact ⟨congrArg (fun u : State => { u with pc := target }) hstores, hly⟩

/-! ## What the shared operations do -/

/-- PC is pushed before it takes the target (R243, R244). -/
theorem callTo_effect (target : Word) (s : State) :
    ∃ t, callTo target s = .next t ∧ t.pc = target ∧ t.sp = s.sp - 2#16 ∧
      t = { memWrite16 { s with sp := s.sp - 2#16 } (s.sp - 2#16) s.pc with pc := target } ∧
      StoresOneWord (s.sp - 2#16) s.pc s t ∧ OnlyStores { s with sp := t.sp, pc := t.pc } t :=
  ⟨_, rfl, rfl, pushPc_sp s, rfl, pushPc_storesOneWord s, (pushPc_onlyStores s).setPc target⟩

/-- One word read at SP; the writes of PC and SP show in no byte (R245). -/
theorem returnToCaller_effect (s : State) :
    ∃ t, returnToCaller s = .next t ∧
      t.pc = peek (afterRead s s.sp) (s.sp + 1#16) ++ peek s s.sp ∧ t.sp = s.sp + 2#16 ∧
      t.a = s.a ∧ t.b = s.b ∧ t.c = s.c ∧ t.d = s.d ∧ t.e = s.e ∧ t.h = s.h ∧ t.l = s.l ∧ t.f = s.f ∧
      AfterTwoReads s.sp (s.sp + 1#16) { s with pc := t.pc, sp := t.sp } t := by
  obtain ⟨hflag, hbytes, -⟩ := memRead16_afterTwoReads s s.sp
  refine ⟨_, rfl, memRead16_fst s s.sp, ?_⟩
  rw [memRead16_snd] at hflag hbytes ⊢
  exact ⟨rfl, rfl, rfl, rfl, rfl, rfl, rfl, rfl, rfl, hflag, hbytes, rfl⟩

/-! ## The statements -/

/-- Settles O40: both are `callTo`, RST 38H with a fixed target. -/
theorem callAndRestart : Obligations.CallAndRestart := by
  unfold Obligations.CallAndRestart
  exact ⟨fun nn s => ⟨rfl, callTo_effect nn s⟩, fun s => ⟨rfl, callTo_effect 0x0038#16 s⟩⟩

theorem otherReturns_subset_undefinedPrimary :
    [0xC0#8, 0xC8#8, 0xD0#8, 0xD8#8, 0xD9#8] ⊆ undefinedPrimary := by decide

/-- Settles O41: one word read at SP, and the other returns are among the undefined bytes. -/
theorem returnFromCall : Obligations.ReturnFromCall := by
  unfold Obligations.ReturnFromCall
  exact ⟨fun s => ⟨rfl, returnToCaller_effect s⟩, fun op hop =>
    (lookup_primary_eq_none_iff op).2 (.inr (otherReturns_subset_undefinedPrimary hop))⟩

end Sys2Proof.Machine
end

section
/-! PUSH and POP, and a word taken back after it was stacked (46_stack.md R250 to R253). -/

namespace Sys2Proof.Machine

/-! ## The handlers of a family -/

theorem exec_push (q : Pair) : exec (.push q) = pushPair q := by cases q <;> rfl
theorem exec_pop (q : Pair) : exec (.pop q) = popPair q := by cases q <;> rfl

/-! ## The two byte pushes as a word store at the new SP -/

theorem word_sub_two_add_one (x : Word) : x - 2#16 + 1#16 = x - 1#16 := by bv_omega

/-- A byte write does not see SP. -/
theorem memWrite_setSp (s : State) (w a : Word) (v : Byte) :
    memWrite { s with sp := w } a v = { memWrite s a v with sp := w } := by
  unfold memWrite
  cases route s.bootFlag a <;> rfl

theorem pushByte_eq (s : State) (v : Byte) :
    pushByte s v = { memWrite s (s.sp - 1#16) v with sp := s.sp - 1#16 } := memWrite_setSp s _ _ v

theorem pushPair_eq (q : Pair) (s : State) :
    pushPair q s = .next (memWrite (memWrite { s with sp := s.sp - 2#16 } (s.sp - 1#16) (hiByte (s.pair q))) (s.sp - 2#16)
      (loByte (s.pair q))) := by
  have hsp : s.sp - 1#16 - 1#16 = s.sp - 2#16 := by bv_omega
  simp only [pushPair, pushByte_eq, memWrite_setSp, hsp]

/-- The two bytes of a word differ, so the high byte may be written first. -/
theorem memWrite_high_low_storesOneWord (s : State) (a w : Word) :
    StoresOneWord a w s (memWrite (memWrite s (a + 1#16) (hiByte w)) a (loByte w)) := by
  have hne := cellOf_succ_ne s.bootFlag a
  have hhigh (x : Word) (h : cellOf s.bootFlag x ≠ cellOf s.bootFlag a) :
      peek (memWrite (memWrite s (a + 1#16) (hiByte w)) a (loByte w)) x = peek (memWrite s (a + 1#16) (hiByte w)) x :=
    peek_memWrite_other _ _ _ _ (by rwa [memWrite_bootFlag])
  refine ⟨fun x ha hb => ?_, fun hram x hx => ?_, fun hram x hx => ?_, fun hram hppu => ?_, fun hram hppu => ?_⟩
  · rw [hhigh x ha]
    exact peek_memWrite_other s _ x _ hb
  · exact peek_memWrite_same _ _ x _ hram (by rwa [memWrite_bootFlag])
  · rw [hhigh x (hx ▸ hne)]
    exact peek_memWrite_same s _ x _ hram hx
  · rw [memWrite_ignored _ _ _ hram hppu]
    exact peek_memWrite_other s _ _ _ hne.symm
  · rw [hhigh _ hne, memWrite_ignored s _ _ hram hppu]

/-- Two byte writes below the old SP (R250). -/
theorem pushPair_effect (q : Pair) (s : State) :
    ∃ t, pushPair q s = .next t ∧ t.sp = s.sp - 2#16 ∧
      t = memWrite (memWrite { s with sp := s.sp - 2#16 } (s.sp - 1#16) (hiByte (s.pair q))) (s.sp - 2#16)
        (loByte (s.pair q)) ∧
      StoresOneWord (s.sp - 2#16) (s.pair q) s t ∧ OnlyStores { s with sp := t.sp } t := by
  have hstores := memWrite_high_low_storesOneWord { s with sp := s.sp - 2#16 } (s.sp - 2#16) (s.pair q)
  rw [word_sub_two_add_one] at hstores
  refine ⟨_, pushPair_eq q s, by simp only [memWrite_sp], rfl, hstores, ?_⟩
  simp only [memWrite_sp]
  exact (memWrite_onlyStores _ _ _).trans (memWrite_onlyStores _ _ _)

/-! ## The two byte pops as a word read at SP -/

theorem popPair_eq (q : Pair) (s : State) :
    popPair q s = .next (({ (memRead16 s s.sp).2 with sp := s.sp + 2#16 } : State).setPair q (memRead16 s s.sp).1) := by
  have hsp : s.sp + 1#16 + 1#16 = s.sp + 2#16 := by bv_omega
  simp only [popPair, popByte, memRead16, memRead_eq, hsp]
  rfl

theorem setPair_a (s : State) (q : Pair) (w : Word) : (s.setPair q w).a = s.a := by cases q <;> rfl

/-- What is done to the registers after two reads is in the reads' frame. -/
theorem AfterTwoReads.trans_onlyRegs {lo hi : Word} {s t u : State} (hread : AfterTwoReads lo hi s t)
    (hregs : OnlyRegs t u) : AfterTwoReads lo hi s u := by
  obtain ⟨hflag, hbytes, ht⟩ := hread
  obtain ⟨hu, hkept⟩ := hregs
  have hsame : u.bootFlag = t.bootFlag := by rw [hu]
  refine ⟨hsame.trans hflag, fun x hx => (hkept x).trans (hbytes x (hsame ▸ hx)), ?_⟩
  rw [hu, ht]

/-- A move of SP on both sides keeps what the reads leave. -/
theorem AfterTwoReads.setSp {lo hi : Word} {s t : State} (h : AfterTwoReads lo hi s t) (w : Word) :
    AfterTwoReads lo hi { s with sp := w } { t with sp := w } := by
  obtain ⟨hflag, hbytes, ht⟩ := h
  exact ⟨hflag, hbytes, congrArg (fun u : State => { u with sp := w }) ht⟩

/-- One word read at SP, the high byte after the low one (R251). -/
theorem popPair_effect (q : Pair) (s : State) :
    ∃ t, popPair q s = .next t ∧
      t.pair q = peek (afterRead s s.sp) (s.sp + 1#16) ++ peek s s.sp ∧ t.sp = s.sp + 2#16 ∧
      (∀ q' : Pair, q' ≠ q → t.pair q' = s.pair q') ∧ t.a = s.a ∧ t.f = s.f ∧
      AfterTwoReads s.sp (s.sp + 1#16) { s with sp := t.sp } t := by
  have hread := (memRead16_afterTwoReads s s.sp).setSp (s.sp + 2#16)
  refine ⟨_, popPair_eq q s, ?word, by rw [setPair_sp], fun q' hne => ?pairs, ?a, ?f, ?frame⟩
  case word => rw [pair_setPair, if_pos rfl, memRead16_fst]
  case pairs =>
    rw [pair_setPair, if_neg hne, memRead16_snd]
    cases q' <;> rfl
  case a => rw [setPair_a, memRead16_snd]
  case f => rw [setPair_f, memRead16_snd]
  case frame =>
    rw [setPair_sp]
    exact hread.trans_onlyRegs (setPair_onlyRegs _ q _)

/-! ## A word taken back after it was stacked -/

/-- A word stored where both bytes are RAM is read back: RAM lies above every byte the boot flag uncovers. -/
theorem StoresOneWord.word_read_back {s t : State} {a w : Word} (hstore : StoresOneWord a w s t)
    (hlo : isRam a = true) (hhi : isRam (a + 1#16) = true) : peek (afterRead t a) (a + 1#16) ++ peek t a = w := by
  obtain ⟨-, hlow, hhigh, -⟩ := hstore
  have hflag : peek (afterRead t a) (a + 1#16) = peek t (a + 1#16) := by
    have hge := ge_of_isRam hhi
    rw [show afterRead t a = _ from memRead_snd t a]
    exact peek_bootFlag _ _ _ (.inr (by omega))
  rw [hflag, hlow hlo a rfl, hhigh hhi _ rfl, ← wordOf_eq_append, wordOf_hiByte_loByte]

/-- From `s`, `op` completes, moves SP down by 2 and stores the word `w` there. -/
def StacksWord (op : State → Result) (w : Word) (s : State) : Prop :=
  ∃ t, op s = .next t ∧ t.sp = s.sp - 2#16 ∧ StoresOneWord (s.sp - 2#16) w s t

/-- From every state, `op` completes, shows the word at SP as `out` of the next state, and moves SP up by 2. -/
def TakesWord (op : State → Result) (out : State → Word) : Prop :=
  ∀ s, ∃ t, op s = .next t ∧ out t = peek (afterRead s s.sp) (s.sp + 1#16) ++ peek s s.sp ∧ t.sp = s.sp + 2#16

theorem pushPair_stacksWord (q : Pair) (s : State) : StacksWord (pushPair q) (s.pair q) s := by
  obtain ⟨t, hpush, hsp, -, hstore, -⟩ := pushPair_effect q s
  exact ⟨t, hpush, hsp, hstore⟩

theorem callTo_stacksWord (target : Word) (s : State) : StacksWord (callTo target) s.pc s := by
  obtain ⟨t, hcall, -, hsp, -, hstore, -⟩ := callTo_effect target s
  exact ⟨t, hcall, hsp, hstore⟩

theorem popPair_takesWord (q : Pair) : TakesWord (popPair q) (fun t => t.pair q) := fun s => by
  obtain ⟨t, hpop, hword, hsp, -⟩ := popPair_effect q s
  exact ⟨t, hpop, hword, hsp⟩

theorem returnToCaller_takesWord : TakesWord returnToCaller State.pc := fun s => by
  obtain ⟨t, hret, hword, hsp, -⟩ := returnToCaller_effect s
  exact ⟨t, hret, hword, hsp⟩

/-- SP comes back wherever the word landed; the word comes back from RAM (R252, R253). -/
theorem StacksWord.taken_back {push pop : State → Result} {out : State → Word} {w : Word} {s : State}
    (hpush : StacksWord push w s) (hpop : TakesWord pop out) :
    ∃ t u, push s = .next t ∧ pop t = .next u ∧ u.sp = s.sp ∧
      (isRam (s.sp - 1#16) = true → isRam (s.sp - 2#16) = true → out u = w) := by
  obtain ⟨t, ht, hdown, hstore⟩ := hpush
  obtain ⟨u, hu, hout, hup⟩ := hpop t
  refine ⟨t, u, ht, hu, ?_, fun hhi hlo => ?_⟩
  · rw [hup, hdown, BitVec.sub_add_cancel]
  · rw [hout, hdown]
    exact hstore.word_read_back hlo (by rwa [word_sub_two_add_one])

/-- The same where both stack bytes are known to be RAM. -/
theorem StacksWord.taken_back_of_isRam {push pop : State → Result} {out : State → Word} {w : Word} {s : State}
    (hpush : StacksWord push w s) (hpop : TakesWord pop out) (hhi : isRam (s.sp - 1#16) = true)
    (hlo : isRam (s.sp - 2#16) = true) : ∃ t u, push s = .next t ∧ pop t = .next u ∧ out u = w ∧ u.sp = s.sp := by
  obtain ⟨t, u, ht, hu, hsp, hout⟩ := hpush.taken_back hpop
  exact ⟨t, u, ht, hu, hout hhi hlo, hsp⟩

/-! ## The statements -/

/-- Settles O42: the three pushes are one operation, two byte writes. (In the namespace `Machine` the names `pushPair` and
`popPair` are the model's.) -/
theorem Stack.pushPair : Obligations.PushPair := by
  unfold Obligations.PushPair
  refine fun q s => ⟨by cases q <;> rfl, ?_⟩
  rw [exec_push]
  exact pushPair_effect q s

/-- Settles O43: the three pops are one operation, two byte reads. -/
theorem Stack.popPair : Obligations.PopPair := by
  unfold Obligations.PopPair
  refine fun q s => ⟨by cases q <;> rfl, ?_⟩
  rw [exec_pop]
  exact popPair_effect q s

/-- Settles O47: what a PUSH stacks, a POP takes back. -/
theorem stackRoundTrip : Obligations.StackRoundTrip := by
  unfold Obligations.StackRoundTrip
  intro q q' s
  rw [exec_push, exec_pop]
  exact (pushPair_stacksWord q s).taken_back (popPair_takesWord q')

/-- Settles O48: what a CALL, RST 38H or PUSH stacks, a RET or POP takes back. -/
theorem callReturnRoundTrip : Obligations.CallReturnRoundTrip := by
  unfold Obligations.CallReturnRoundTrip
  intro nn q s hhi hlo
  rw [exec_push, exec_pop]
  exact ⟨(callTo_stacksWord nn s).taken_back_of_isRam returnToCaller_takesWord hhi hlo,
    (callTo_stacksWord 0x0038#16 s).taken_back_of_isRam returnToCaller_takesWord hhi hlo,
    (pushPair_stacksWord q s).taken_back_of_isRam returnToCaller_takesWord hhi hlo,
    (callTo_stacksWord nn s).taken_back_of_isRam (popPair_takesWord q) hhi hlo⟩

end Sys2Proof.Machine
end

section
/-! The high-page and absolute loads and stores of A (47_highpage_absolute.md R255 to R260). -/

namespace Sys2Proof.Machine

/-- The high-page address has the high byte 0xFF (R143). -/
theorem highPage_eq_append (n : Byte) : highPage n = 0xFF#8 ++ n := by
  have hn : n.toNat < 2 ^ 8 := n.isLt
  apply BitVec.eq_of_toNat_eq
  rw [BitVec.toNat_append, ← Nat.shiftLeft_add_eq_or_of_lt hn]
  simp only [highPage, BitVec.toNat_add, BitVec.toNat_setWidth, BitVec.toNat_ofNat]
  omega

/-- Settles O28: three loads of A from one address. -/
theorem highPageAndAbsoluteLoads : Obligations.HighPageAndAbsoluteLoads := by
  unfold Obligations.HighPageAndAbsoluteLoads
  simp only [← highPage_eq_append]
  exact fun n nn s => ⟨⟨rfl, loadAFrom_loadEffect s (highPage n)⟩, ⟨rfl, loadAFrom_loadEffect s (highPage s.c)⟩,
    ⟨rfl, loadAFrom_loadEffect s nn⟩⟩

/-- Settles O29: three stores of A to one address. -/
theorem highPageAndAbsoluteStores : Obligations.HighPageAndAbsoluteStores := by
  unfold Obligations.HighPageAndAbsoluteStores
  simp only [← highPage_eq_append]
  exact fun n nn s => ⟨⟨rfl, storeAAt_storeEffect s (highPage n)⟩, ⟨rfl, storeAAt_storeEffect s (highPage s.c)⟩,
    ⟨rfl, storeAAt_storeEffect s nn⟩⟩

end Sys2Proof.Machine
end

section
/-! The Clocks, the PPU's transitions and the renderer, case by case (60_exceptions.md R310 to R312, R320 to R326, R330,
R332). -/

namespace Sys2Proof.Machine

/-! ## The Clock and the PPU step -/

theorem tick_of_nonpos {n : Int} (clk : Clock) (hn : n ≤ 0) : clk.tick n = clk := if_pos hn

theorem tick_of_pos {n : Int} (clk : Clock) (hn : 0 < n) :
    clk.tick n = ⟨clk.base + n.toNat, clk.fine + 4 * n.toNat⟩ := if_neg (not_le.2 hn)

theorem ppuStep_of_lt {n : Int} {s : State} (p : Params) (h : (s.ppuClock.tick n).base < threshold s.mode) :
    ppuStep p n s = { s with ppuClock := s.ppuClock.tick n } := if_pos h

theorem ppuStep_of_ge {n : Int} {s : State} (p : Params) (h : threshold s.mode ≤ (s.ppuClock.tick n).base) :
    ppuStep p n s = transition p { s with ppuClock := .zero } := if_neg (Nat.not_lt.2 h)

/-- Settles O55: the tick on both sides of a count of zero, the PPU step on both sides of the threshold. -/
theorem clockAndPpuStep : Obligations.ClockAndPpuStep := by
  unfold Obligations.ClockAndPpuStep
  refine ⟨fun clk other n => ⟨tick_of_nonpos clk, fun hn => ?_, rfl, rfl⟩, ⟨rfl, rfl, rfl, rfl⟩,
    fun p n s => ⟨ppuStep_of_lt p, ppuStep_of_ge p⟩⟩
  rw [tick_of_pos clk hn]
  constructor <;> dsimp only <;> omega

/-! ## The transitions -/

section
variable {s : State} (p : Params)

theorem transition_of_oamRead (hm : s.mode = .oamRead) : transition p s = leaveOamRead s := by
  unfold transition; rw [hm]
theorem transition_of_vramRead (hm : s.mode = .vramRead) : transition p s = leaveVramRead p s := by
  unfold transition; rw [hm]
theorem transition_of_horizontalBlank (hm : s.mode = .horizontalBlank) : transition p s = leaveHorizontalBlank s := by
  unfold transition; rw [hm]
theorem transition_of_verticalBlank (hm : s.mode = .verticalBlank) : transition p s = leaveVerticalBlank s := by
  unfold transition; rw [hm]

end

/-- Settles O56: the two transitions that keep LY, and the frame of the render one of them makes. -/
theorem leaveOamReadAndVramRead : Obligations.LeaveOamReadAndVramRead := by
  unfold Obligations.LeaveOamReadAndVramRead
  exact ⟨fun p s hm => transition_of_oamRead p hm, fun p s hm hline =>
    ⟨(lineMatchesMode_outside_blank (by simp [hm])).1 hline, transition_of_vramRead p hm, renderScanline_frame p s,
      fun k hk => renderScanline_pixels_outside hk⟩⟩

/-- The last visible line ends in the vertical blank (R324, R325). -/
theorem leaveHorizontalBlank_of_last {s : State} (hly : s.ppu.ly = 143#8) :
    leaveHorizontalBlank s =
      { s with ppu := { s.ppu with ly := 144#8 }, mode := .verticalBlank, frames := s.frames ++ [s.pixels] } := by
  unfold leaveHorizontalBlank
  rw [hly]
  rfl

theorem leaveHorizontalBlank_of_lt {s : State} (hly : s.ppu.ly.toNat < 143) :
    leaveHorizontalBlank s = { s with ppu := { s.ppu with ly := s.ppu.ly + 1#8 }, mode := .oamRead } :=
  if_neg (show s.ppu.ly + 1#8 ≠ 144#8 by bv_omega)

theorem leaveVerticalBlank_of_last {s : State} (hly : s.ppu.ly = 153#8) :
    leaveVerticalBlank s = { s with ppu := { s.ppu with ly := 0#8 }, mode := .oamRead } := if_pos hly

theorem leaveVerticalBlank_of_lt {s : State} (hly : s.ppu.ly.toNat < 153) :
    leaveVerticalBlank s = { s with ppu := { s.ppu with ly := s.ppu.ly + 1#8 } } :=
  if_neg (show s.ppu.ly ≠ 153#8 by bv_omega)

/-- Settles O57: each blank at its last line and before it. -/
theorem lineAdvance : Obligations.LineAdvance := by
  unfold Obligations.LineAdvance
  refine fun p s => ⟨fun hm hly => ?_, fun hm hly => ?_, fun hm hly => ?_, fun hm hly => ?_⟩
  · exact (transition_of_horizontalBlank p hm).trans (leaveHorizontalBlank_of_last (BitVec.eq_of_toNat_eq hly))
  · exact (transition_of_horizontalBlank p hm).trans (leaveHorizontalBlank_of_lt hly)
  · exact (transition_of_verticalBlank p hm).trans (leaveVerticalBlank_of_last (BitVec.eq_of_toNat_eq hly))
  · exact (transition_of_verticalBlank p hm).trans (leaveVerticalBlank_of_lt hly)

/-! ## The renderer -/

theorem renderScanline_of_disabled {s : State} (p : Params) (hd : s.ppu.displayEnable = false) :
    renderScanline p s = s := by
  unfold renderScanline
  rw [hd]
  rfl

theorem tileIndex_eq (sel : Bool) (i : Byte) :
    tileIndex sel i = if sel = true ∧ i.toNat < 128 then i.toNat + 256 else i.toNat := by
  simp only [tileIndex, Bool.and_eq_true, decide_eq_true_eq]

theorem tileIndex_le (sel : Bool) (i : Byte) : tileIndex sel i ≤ 383 := by
  have hi : i.toNat < 256 := i.isLt
  rw [tileIndex_eq]
  split <;> omega

/-- Settles O58: the renderer looks at the display bit first, and TileIndex is a byte, or one below 128 plus 256. -/
theorem displayDisabledAndTileIndex : Obligations.DisplayDisabledAndTileIndex := by
  unfold Obligations.DisplayDisabledAndTileIndex
  exact ⟨fun p s hd => renderScanline_of_disabled p hd, fun sel i => ⟨tileIndex_eq sel i, tileIndex_le sel i⟩⟩

end Sys2Proof.Machine
end

section
/-! The invariant under the host's transactions (70_reset_and_hazards.md R375, R376; 60_exceptions.md R312). -/

namespace Sys2Proof.Machine

theorem addTime_correlated {clk other : Clock} (h : clk.Correlated) (hother : other.Correlated) :
    (clk.addTime other).Correlated := by
  unfold Clock.Correlated Clock.addTime at *
  dsimp only
  omega

/-- The invariant does not speak of the images. -/
theorem loadImages_invariant {s : State} (boot cart : List Byte) (h : Invariant s) :
    Invariant (loadImages boot cart s) := by
  obtain ⟨hflags, htiles, hline, hstores, hcpu, hppu, hbelow, hstop, htop⟩ := h
  exact ⟨hflags, htiles, hline, hstores, hcpu, hppu, hbelow, hstop, htop⟩

theorem hostPpuStep_invariant {s : State} (p : Params) (n : Int) (h : Invariant s) : Invariant (hostPpuStep p n s) := by
  obtain ⟨hflags, htiles, hline, hstores, hcpu, hppu, -, hstop, htop⟩ := h
  exact ppuStep_invariant p n hflags htiles hline hstores hcpu hppu hstop htop

theorem hostAddTime_cpu_invariant {s : State} {other : Clock} (h : Invariant s) (hother : other.Correlated) :
    Invariant (hostAddTime .cpu other s) := by
  obtain ⟨hflags, htiles, hline, hstores, hcpu, hppu, hbelow, hstop, htop⟩ := h
  exact ⟨hflags, htiles, hline, hstores, addTime_correlated hcpu hother, hppu, hbelow, hstop, htop⟩

/-- Settles O5: each transaction's effect on the clauses; a run of a frame keeps what a step keeps, and a PPU step does
not need the clause that AddTime on the PPU Clock can break. -/
theorem invariantKeptByHost : Obligations.InvariantKeptByHost := by
  unfold Obligations.InvariantKeptByHost
  refine ⟨hostReset_invariant, fun s boot cart => loadImages_invariant boot cart, fun p n s => hostPpuStep_invariant p n,
    fun p s t h ⟨limit, hrun⟩ => runTo_keeps (invariantKeptByStep p) h hrun,
    fun s other => hostAddTime_cpu_invariant, fun s t other h hother ht => ?_⟩
  subst ht
  obtain ⟨hflags, htiles, hline, hstores, hcpu, hppu, -, hstop, htop⟩ := h
  have hadded := addTime_correlated hppu hother
  exact ⟨hflags, htiles, hline, hstores, hcpu, hadded, hstop, htop,
    fun p n => ppuStep_invariant p n hflags htiles hline hstores hcpu hadded hstop htop⟩

end Sys2Proof.Machine
end

section
/-! The costs: their defaults, and what of a step rests on them (70_reset_and_hazards.md R380, R381). -/

namespace Sys2Proof.Machine

/-! ## The default costs of the families of instructions -/

section
variable (b : Bool)

theorem defaultCycles_ldRegImm (r : Reg8) (n : Byte) : defaultCycles (.ldRegImm r n) b = 2 := by cases r <;> rfl
theorem defaultCycles_ldRegAtHl (r : Reg8) : defaultCycles (.ldRegAtHl r) b = 2 := by cases r <;> rfl
theorem defaultCycles_ldAtHlReg (r : Reg8) : defaultCycles (.ldAtHlReg r) b = 2 := by cases r <;> rfl
theorem defaultCycles_ldRegReg (dst src : Reg8) : defaultCycles (.ldRegReg dst src) b = 1 := by
  cases dst <;> cases src <;> rfl
theorem defaultCycles_incReg (r : Reg8) : defaultCycles (.incReg r) b = 1 := by cases r <;> rfl
theorem defaultCycles_decReg (r : Reg8) : defaultCycles (.decReg r) b = 1 := by cases r <;> rfl
theorem defaultCycles_addReg (r : Reg8) : defaultCycles (.addReg r) b = 1 := by cases r <;> rfl
theorem defaultCycles_subReg (r : Reg8) : defaultCycles (.subReg r) b = 1 := by cases r <;> rfl
theorem defaultCycles_cpReg (r : Reg8) : defaultCycles (.cpReg r) b = 1 := by cases r <;> rfl
theorem defaultCycles_rlReg (r : Reg8) : defaultCycles (.rlReg r) b = 2 := by cases r <;> rfl
theorem defaultCycles_bitReg (k : BitNo) (r : Reg8) : defaultCycles (.bitReg k r) b = 2 := by
  cases k <;> cases r <;> rfl
theorem defaultCycles_bitAtHl (k : BitNo) : defaultCycles (.bitAtHl k) b = 3 := by cases k <;> rfl
theorem defaultCycles_ldPairImm (r : Reg16) (nn : Word) : defaultCycles (.ldPairImm r nn) b = 3 := by cases r <;> rfl
theorem defaultCycles_incPair (r : Reg16) : defaultCycles (.incPair r) b = 2 := by cases r <;> rfl
theorem defaultCycles_push (q : Pair) : defaultCycles (.push q) b = 4 := by cases q <;> rfl
theorem defaultCycles_pop (q : Pair) : defaultCycles (.pop q) b = 3 := by cases q <;> rfl

end

/-- Settles O18: the families row by row, and the other rows one by one. -/
theorem defaultCosts : Obligations.DefaultCosts := by
  unfold Obligations.DefaultCosts
  refine ⟨fun r q n b => ?families, fun k r b => ⟨defaultCycles_bitReg b k r, defaultCycles_bitAtHl b k⟩,
    fun r nn b => ⟨defaultCycles_ldPairImm b r nn, defaultCycles_incPair b r⟩,
    fun q b => ⟨defaultCycles_push b q, defaultCycles_pop b q⟩, fun n nn b => ?others⟩
  case families =>
    exact ⟨defaultCycles_ldRegImm b r n, defaultCycles_ldRegAtHl b r, defaultCycles_ldAtHlReg b r,
      defaultCycles_ldRegReg b r q, defaultCycles_incReg b r, defaultCycles_decReg b r, defaultCycles_addReg b r,
      defaultCycles_subReg b r, defaultCycles_cpReg b r, defaultCycles_rlReg b r⟩
  case others => and_intros <;> rfl

/-! ## What rests on the cost of a step -/

/-- The two states differ at most in what the clocking after a handler moves: the Clocks, the mode, LY and the pixel
output. -/
def SameButTiming (t u : State) : Prop :=
  t = { u with
    cpuClock := t.cpuClock, ppuClock := t.ppuClock, mode := t.mode, pixels := t.pixels, frames := t.frames
    ppu := { u.ppu with ly := t.ppu.ly } }

theorem afterHandler_sameButTiming (p : Params) (cost : Nat) (s : State) : SameButTiming (afterHandler p cost s) s := by
  unfold SameButTiming afterHandler
  rw [ppuStep_frame]
  rfl

theorem SameButTiming.symm {t u : State} (h : SameButTiming t u) : SameButTiming u t := by
  unfold SameButTiming at *
  rw [h]

theorem SameButTiming.trans {t u v : State} (htu : SameButTiming t u) (huv : SameButTiming u v) :
    SameButTiming t v := by
  unfold SameButTiming at *
  rw [htu, huv]

/-- LY shows in its own register alone. -/
theorem ppuRegRead_setLy_other (r : PpuRegs) (ly : Byte) {addr : Nat} (h : addr ≠ 0xFF44) :
    ppuRegRead { r with ly := ly } addr = ppuRegRead r addr := by
  simp only [ppuRegRead, if_neg h]
  rfl

/-- A step's parameters but the implemented set work in the clocking after the handler alone. -/
theorem stepWith_sameButTiming {p q : Params} {s t u : State} (himpl : p.implSet = q.implSet)
    (ht : stepWith p s = .next t) (hu : stepWith q s = .next u) : SameButTiming t u := by
  rcases stepWith_cases p s with ⟨hs, hp⟩ | ⟨hs, sp, op, s1, hfetch, hp⟩ | ⟨hs, i, s1, hfetch, hp⟩ <;> rw [hp] at ht
  · rw [stoppedStep q s hs] at hu
    cases ht; cases hu
    rfl
  · rw [stepWith_of_undefinedOpcode hs (himpl ▸ hfetch)] at hu
    cases ht; cases hu
    rfl
  · obtain ⟨s2, hexec⟩ := exec_completes i s1
    rw [stepWith_of_fetchInstr hs (himpl ▸ hfetch)] at hu
    rw [hexec] at ht hu
    cases ht; cases hu
    exact (afterHandler_sameButTiming p _ s2).trans (afterHandler_sameButTiming q _ s2).symm

theorem SameButTiming.peek_eq {t u : State} (h : SameButTiming t u) {x : Word} (hx : x ≠ 0xFF44#16) :
    peek t x = peek u x := by
  have hly := ppuRegRead_setLy_other u.ppu t.ppu.ly (addr := x.toNat) (by bv_omega)
  unfold SameButTiming at h
  rw [h]
  unfold peek
  cases route u.bootFlag x
  case ppuRegs => exact hly
  all_goals rfl

/-- Settles O19: the two results differ in the clocking after one handler, and LY is all a program can read of it. -/
theorem costIndependence : Obligations.CostIndependence := by
  unfold Obligations.CostIndependence
  intro p q s t u himpl ht hu
  have h := stepWith_sameButTiming himpl ht hu
  have hpeek : ∀ x : Word, x ≠ 0xFF44#16 → peek t x = peek u x := fun x hx => h.peek_eq hx
  unfold SameButTiming at h
  rw [h] at hpeek ⊢
  exact ⟨fun r => by cases r <;> rfl, rfl, rfl, rfl, rfl, rfl, rfl, hpeek, rfl, rfl⟩

end Sys2Proof.Machine
end
